-- ==== Sys2Proof/Word.lean ====
section
/-! DEFINITION. The word types of the block: bytes of the stream, 24-bit type codes and 32-bit fields (R9, R10). -/

namespace Sys2Proof

/-- One byte of the stream, 8 bits (R10). -/
abbrev Byte := BitVec 8

/-- A raw 3-byte frame type code as it stands in a header (R9, R71). -/
abbrev Code := BitVec 24

/-- A 32-bit unsigned field or register: lengths, checksums, the byte index, FRAME_COUNT (R9). -/
abbrev Word := BitVec 32

end Sys2Proof
end

