-- ==== Sys2Proof/Config.lean ====
section
/-! DEFINITION. What is given to the block from outside: the spec's three parameters, the moves of the agents around
it, and how long a supply of bytes or moves lasts. All of it is plain data that State carries, so that a statement about
every state holds for every parameter ("the model takes the parameter as an argument", R7, R8) and for every stream and
interleaving (R21). The two free values at the end stand for the infinite supplies that no plain data spells out. -/

namespace Sys2Proof

/-- Parameter P_SHORT_OFFSET (R8): what a record, stats or continuation frame with 0 < payloadLength < 8 does. -/
inductive ShortOffset where
  | truncate    -- the offset is the whole body, the data absent (R148; the spec's choice)
  | malformed   -- the frame raises MALFORMED (R148)
  deriving DecidableEq, Repr

/-- The implementation parameters (R7, R8, R55). -/
structure Params where
  payloadMax  : Word          -- P_PAYLOAD_MAX, 0 to 2^32 - 1 (R7)
  shortOffset : ShortOffset   -- P_SHORT_OFFSET (R8)
  base        : Nat           -- P_BASE, where the platform puts the register window (R55)
  deriving DecidableEq, Repr

/-- The values that match the source and the spec's own choice: P_PAYLOAD_MAX = 2^32 - 1 (R7), P_SHORT_OFFSET =
TRUNCATE (R8). P_BASE is left OPEN by the spec; 0 stands for it here (DESIGN CHOICE, log entry 2). -/
def Params.source : Params where
  payloadMax  := 0xFFFFFFFF#32
  shortOffset := .truncate
  base        := 0

/-! ### Supplies: finite, or infinite (R53, R221, R234; log entry 18) -/

/-- What a supply gives once its written items are taken. That these three exist, and how an infinite supply is held as
plain data, is the model's choice (DESIGN CHOICE, log entry 18): the spec lets SRC's answers be one finite stream or a
named infinite one (R53, R234) and draws them freely otherwise (R21). -/
inductive Tail (α : Type) where
  | stops                               -- nothing more: the supply is finite
  | repeats (first : α) (more : List α) -- the same items again and again: a named infinite supply
  | drawn (name next : Nat)             -- the free values of one name, from index next on: any infinite supply
  deriving DecidableEq, Repr

/-- A supply of items: the written ones, oldest first, and what comes after them (R21, R53; log entry 18). -/
structure Supply (α : Type) where
  ready : List α
  after : Tail α
  deriving DecidableEq, Repr

/-! ### The moves of the agents around the block -/

namespace Machine

/-- SNK's answer to an event (R54, R84). -/
inductive Ack where
  | ok
  | err
  deriving DecidableEq, Repr

/-- One move of an agent around the block. The order in which moves come is the interleaving R21 and R211 leave open:
State.inputs holds any order, finite or infinite, so a statement about every state is about every interleaving (log
entries 4 and 18). -/
inductive Input where
  /-- SRC answers the outstanding SrcRead with the next byte of its stream, or EOS (R51). -/
  | src
  /-- SNK answers the pending event (R54). -/
  | snk (ack : Ack)
  /-- HOST writes v to the register at offset off, with an access of width bits (R56). -/
  | regWrite (off width : Nat) (v : Word)
  /-- HOST reads the register at offset off, with an access of width bits (R56). -/
  | regRead (off width : Nat)
  /-- Reset is asserted (R230). -/
  | reset
  /-- The platform connects SRC to a stream: its bytes, and whether it ends after the last one (R189, R233). -/
  | connect (bytes : Supply Byte) (ends : Bool)
  deriving DecidableEq, Repr, Inhabited

end Machine

/-! ### Free values (R21; log entry 18) -/

/-- The byte that the infinite stream of a name has at an index: free, since SRC's answers are a free draw (R21, R53). -/
opaque Config.freeByte : (name index : Nat) → Byte

/-- The move that the infinite supply of moves of a name has at an index: free, since the interleaving is (R21, R211). -/
opaque Config.freeMove : (name index : Nat) → Machine.Input

end Sys2Proof
end

