-- ==== Sys2Proof/Syntax.lean ====
section
/-! DEFINITION. The syntax: the nine operations of the opcode table (R2, R76, R81), the symbolic frame types (R26) and
the operating modes (R25). -/

namespace Sys2Proof

/-- Operating mode (R25): DECODE is `decode(stream)`, DISPATCH is `handleResponse(stream, handlers)` (R16). -/
inductive Mode where
  | decode     -- code 0
  | dispatch   -- code 1
  deriving DecidableEq, Repr

/-- Symbolic frame type (R26). The raw code of an unknown type is held zero-extended to 32 bits, as type_raw is (R9;
log entry 12). -/
inductive PType where
  | record
  | exception
  | stats
  | continuation
  | endMark
  | unknown (raw : Word)
  deriving DecidableEq, Repr

/-- The instruction set (R2), one constructor per row of the opcode table. A FRAME row is header word 0 of a frame:
its version byte, and for the default row the 24-bit type code (R72, R77). A CMD row is a value written to CTRL: its
MODE bit, the START bit where the row leaves it open, and the 29 reserved bits (R37, R81). The other parts of a frame
(length, checksums, body) are no part of the matched word; they stand in State when the operation runs (R145). -/
inductive Instr where
  | frameRecord (version : Byte)
  | frameException (version : Byte)
  | frameStats (version : Byte)
  | frameContinuation (version : Byte)
  | frameEnd (version : Byte)
  | frameUnknown (version : Byte) (frameType : Code)
  | cmdStart (mode : Mode) (reserved : BitVec 29)
  | cmdAbort (start : Bool) (mode : Mode) (reserved : BitVec 29)
  | cmdNop (mode : Mode) (reserved : BitVec 29)
  deriving DecidableEq, Repr

end Sys2Proof
end

