-- ==== Sys2Proof/WellFormed.lean ====
section
/-! DEFINITION. Which terms of Instr stand for a word: every one, but for a FRAME.UNKNOWN that carries a code the type
table names, since the default row is taken only when no other row matches (R77). -/

namespace Sys2Proof

/-- The five codes of the type table are 8388609 to 8388613 (R76). -/
def codeIsNamed (t : Code) : Bool := 8388609 ≤ t.toNat && t.toNat ≤ 8388613

/-- The one check on an instruction's fields; every other field takes all its values (R79, R82). -/
def Instr.wellFormed : Instr → Bool
  | .frameRecord _ => true
  | .frameException _ => true
  | .frameStats _ => true
  | .frameContinuation _ => true
  | .frameEnd _ => true
  | .frameUnknown _ t => !codeIsNamed t
  | .cmdStart _ _ => true
  | .cmdAbort _ _ _ => true
  | .cmdNop _ _ => true

end Sys2Proof
end

