-- ==== Sys2Proof/Decode.lean ====
section
/-! DEFINITION. Decoding: byte order (R11, R57), type resolution (R125), header word 0 and CTRL values to
instructions (R77, R81), and the encoder back to them. -/

namespace Sys2Proof

/-! ### Byte order -/

/-- be32: four bytes read big-endian, the first the most significant (R11, R57). -/
def be32 (b0 b1 b2 b3 : Byte) : Word := b0 ++ b1 ++ b2 ++ b3

/-- be32bytes: the four bytes of a word, most significant first (R87). -/
def be32Bytes (x : Word) : List Byte :=
  [x.extractLsb' 24 8, x.extractLsb' 16 8, x.extractLsb' 8 8, x.extractLsb' 0 8]

/-! ### Frame types -/

/-- The raw code of each symbolic type, zero-extended (R76). The codes are taken as written (R18; log entry 11). -/
def PType.code : PType → Word
  | .record       => 0x800001#32
  | .exception    => 0x800002#32
  | .stats        => 0x800003#32
  | .continuation => 0x800004#32
  | .endMark      => 0x800005#32
  | .unknown r    => r

/-- resolve: a raw type code to its symbolic type, an unmapped one kept as it is (R125). -/
def resolve (t : Word) : PType :=
  if t = 0x800001#32 then .record
  else if t = 0x800002#32 then .exception
  else if t = 0x800003#32 then .stats
  else if t = 0x800004#32 then .continuation
  else if t = 0x800005#32 then .endMark
  else .unknown t

/-- The types whose body begins with an offset (R75). -/
def PType.hasOffset : PType → Bool
  | .record | .stats | .continuation => true
  | .exception | .endMark | .unknown _ => false

/-! ### The two formats of the opcode table -/

/-- The format of a row: header word 0 of a frame, or a value written to CTRL. -/
inductive Format where
  | frameHdrW0
  | ctrlWrite
  deriving DecidableEq, Repr

/-- A row of the opcode table: a word w of its format matches when w & mask = pattern. -/
structure TableRow where
  format  : Format
  mask    : Word
  pattern : Word
  deriving DecidableEq, Repr

/-- The row of each instruction (R77, R81). The row of FRAME.UNKNOWN is the default and matches every header word. -/
def Instr.tableRow : Instr → TableRow
  | .frameRecord _       => ⟨.frameHdrW0, 0x00FFFFFF#32, 0x00800001#32⟩
  | .frameException _    => ⟨.frameHdrW0, 0x00FFFFFF#32, 0x00800002#32⟩
  | .frameStats _        => ⟨.frameHdrW0, 0x00FFFFFF#32, 0x00800003#32⟩
  | .frameContinuation _ => ⟨.frameHdrW0, 0x00FFFFFF#32, 0x00800004#32⟩
  | .frameEnd _          => ⟨.frameHdrW0, 0x00FFFFFF#32, 0x00800005#32⟩
  | .frameUnknown _ _    => ⟨.frameHdrW0, 0x00000000#32, 0x00000000#32⟩
  | .cmdStart _ _        => ⟨.ctrlWrite, 0x00000003#32, 0x00000001#32⟩
  | .cmdAbort _ _ _      => ⟨.ctrlWrite, 0x00000002#32, 0x00000002#32⟩
  | .cmdNop _ _          => ⟨.ctrlWrite, 0x00000003#32, 0x00000000#32⟩

/-- Header word 0 to its frame operation: a match on W0 & 0x00FFFFFF, the version bits left out of it (R77). -/
def decodeW0 (w0 : Word) : Instr :=
  let version := w0.extractLsb' 24 8
  let masked := w0 &&& 0x00FFFFFF#32
  if masked = 0x00800001#32 then .frameRecord version
  else if masked = 0x00800002#32 then .frameException version
  else if masked = 0x00800003#32 then .frameStats version
  else if masked = 0x00800004#32 then .frameContinuation version
  else if masked = 0x00800005#32 then .frameEnd version
  else .frameUnknown version (w0.extractLsb' 0 24)

/-- The MODE bit as a mode (R25). -/
def Mode.ofBit (b : Bool) : Mode := if b then .dispatch else .decode

/-- The code of a mode (R25). -/
def Mode.bit : Mode → Bool
  | .decode   => false
  | .dispatch => true

/-- A value written to CTRL to its command (R81): ABORT when bit 1 is set, else START when bit 0 is set, else NOP. -/
def decodeCtrl (v : Word) : Instr :=
  let mode := Mode.ofBit (v.getLsbD 2)
  let reserved := v.extractLsb' 3 29
  if v.getLsbD 1 then .cmdAbort (v.getLsbD 0) mode reserved
  else if v.getLsbD 0 then .cmdStart mode reserved
  else .cmdNop mode reserved

/-! ### Decoding what the block is given -/

/-- What the block is given to decode: bytes of the stream from a header's first byte on, or a CTRL value. -/
inductive Wire where
  | header (bytes : List Byte)
  | ctrl (v : Word)
  deriving DecidableEq, Repr

/-- Why nothing is decoded: no encoding is illegal (R89), so only a header too short to hold word 0 is. -/
inductive DecodeError where
  | shortHeader (got : Nat)
  deriving DecidableEq, Repr

/-- The decoder, total: an instruction and the bytes after its word, or the reason by name. -/
def decode : Wire → Except DecodeError (Instr × List Byte)
  | .header (b0 :: b1 :: b2 :: b3 :: rest) => .ok (decodeW0 (be32 b0 b1 b2 b3), rest)
  | .header short => .error (.shortHeader short.length)
  | .ctrl v => .ok (decodeCtrl v, [])

/-- The instruction decoded, where there is one. -/
def decode? (w : Wire) : Option Instr :=
  match decode w with
  | .ok (i, _) => some i
  | .error _ => none

/-- The host's word of an opcode-table row, as the block would be given it. The CTRL_WRITE rows have bits only in their
lowest byte, the FRAME_HDR_W0 rows reach bit 23 or 31, so the number of bits tells the format (log entry 3). A header
word is laid out big-endian, as the stream carries it (R57). -/
def tableWire (nbits w : Nat) : Option Wire :=
  if nbits = 0 then none
  else if nbits ≤ 8 then some (.ctrl (BitVec.ofNat 32 w))
  else if nbits ≤ 32 then some (.header (be32Bytes (BitVec.ofNat 32 w)))
  else none

/-- The instruction the decoder reads from an opcode-table row's word. -/
def decodeTableWord (nbits w : Nat) : Option Instr := (tableWire nbits w).bind decode?

/-! ### The encoder, from the same layouts -/

/-- Header word 0 of a version and a type code (R72). -/
def encodeW0 (version : Byte) (frameType : Code) : Word := version ++ frameType

/-- A CTRL value from its fields (R37). -/
def encodeCtrl (reserved : BitVec 29) (mode : Mode) (abort start : Bool) : Word :=
  reserved ++ BitVec.ofBool mode.bit ++ BitVec.ofBool abort ++ BitVec.ofBool start

/-- The word of an instruction: header word 0 for a frame, the value written to CTRL for a command (R72, R81). -/
def Instr.word : Instr → Word
  | .frameRecord v       => encodeW0 v 0x800001#24
  | .frameException v    => encodeW0 v 0x800002#24
  | .frameStats v        => encodeW0 v 0x800003#24
  | .frameContinuation v => encodeW0 v 0x800004#24
  | .frameEnd v          => encodeW0 v 0x800005#24
  | .frameUnknown v t    => encodeW0 v t
  | .cmdStart m r        => encodeCtrl r m false true
  | .cmdAbort st m r     => encodeCtrl r m true st
  | .cmdNop m r          => encodeCtrl r m false false

/-- What the block is given for an instruction: a frame's word as stream bytes, a command's word as it is (R57, R61). -/
def encode (i : Instr) : Wire :=
  match i.tableRow.format with
  | .frameHdrW0 => .header (be32Bytes i.word)
  | .ctrlWrite  => .ctrl i.word

end Sys2Proof
end

