-- ==== Sys2Proof/Machine/State.lean ====
section
/-! DEFINITION. The state: the block's record with exactly the fields of R22, the observation history of R46, and the
model's own data for the agents around the block (SRC's stream, the moves still to come, a withdrawn request). -/

namespace Sys2Proof.Machine

/-- FSM phase (R23), in the order of its codes 0 to 7. -/
inductive Phase where
  | idle      -- no session has started since reset
  | hdr       -- reading header byte idx
  | pay       -- reading payload body byte idx
  | pcrc      -- reading payload checksum byte idx
  | emit      -- an event is pending at SNK
  | done      -- session ended normally
  | error     -- session ended with an error
  | aborted   -- session ended by the host's ABORT
  deriving DecidableEq, Repr

/-- Error class (R34), in the order of its codes 0 to 5. -/
inductive ErrClass where
  | none
  | checksum
  | unknownType
  | malformed
  | sink
  | capacity
  deriving DecidableEq, Repr

/-- Where an error arose (R34), in the order of its codes 0 to 3. -/
inductive ErrWhere where
  | header
  | payload
  | payloadChecksum
  | none
  deriving DecidableEq, Repr

/-- A validated frame (R146). -/
structure Frame where
  version : Byte
  typeRaw : Word
  ptype   : PType
  plen    : Word
  hcrc    : Word
  offset  : Option (List Byte)
  data    : Option (List Byte)
  pcrc    : Option Word
  deriving DecidableEq, Repr

/-- An event offered to SNK (R86). -/
inductive Event where
  | frame (f : Frame)                          -- DECODE mode only
  | records (data : Option (List Byte))        -- DISPATCH mode only
  | stats (data : Option (List Byte))          -- DISPATCH mode only
  | exceptions (data : Option (List Byte))     -- DISPATCH mode only
  deriving DecidableEq, Repr

/-- SRC's answer to a SrcRead (R51, R83). -/
inductive SrcAnswer where
  | byte (b : Byte)
  | eos
  deriving DecidableEq, Repr

/-- A request of BLOCK's to a collaborator (R51, R54). -/
inductive Request where
  | srcRead
  | snkPut
  deriving DecidableEq, Repr

/-- One entry of the observation history (R46). -/
inductive Obs where
  | read (ans : SrcAnswer)
  | put (ev : Event) (ack : Ack)
  | close
  | regW (off : Nat) (v : Word)
  | regR (off : Nat) (v : Word)
  deriving DecidableEq, Repr

/-- Why the machine stops with a fault. The block's own errors are none of these: they end a session in phase ERROR,
which is a next state (R207). Both faults are safe: no run from reset reaches them (R24, R31; log entry 8). -/
inductive Fault where
  /-- Raised when SRC answers while idx lies outside the field being read, where R120, R140 and R142 name no byte (R24). Safe. -/
  | indexOutsideField
  /-- Raised when SNK answers in phase EMIT and no event is pending (R31). Safe. -/
  | noPendingEvent
  deriving DecidableEq, Repr

/-- What the model refuses, by name. -/
inductive Refusal where
  /-- Raised by exec's arm of an instruction that has no meaning yet (none is left). Safe. -/
  | notModelled (mnemonic : String)
  /-- Raised by a host access that is not 32 bits wide or not at one of the five offsets (R56, I15). Safe. -/
  | accessOutsideInterface
  /-- Raised when SRC answers a request that was not made (R189, I16). Safe. -/
  | srcAnswersNoRequest
  /-- Raised when SNK answers and no event was offered (R189). Safe. -/
  | snkAnswersNoRequest
  /-- Raised when SRC is connected to a stream while a session owns the stream (R187, R189). Safe. -/
  | streamIsOwned
  deriving DecidableEq, Repr

/-- The machine's state. -/
structure State where
  /- The block state, field by field as R22 gives it. -/
  phase      : Phase
  idx        : Word
  mode       : Mode
  ctrlMode   : Mode
  hbuf       : Vector Byte 12
  version    : Byte
  typeRaw    : Word
  ptype      : PType
  plen       : Word
  hcrc       : Word
  crc        : Word
  pbuf       : List Byte
  pcbuf      : Vector Byte 4
  pcrc       : Word
  pending    : Option Event
  endSeen    : Bool
  closed     : Bool
  errClass   : ErrClass
  errWhere   : ErrWhere
  errInfo    : Word
  errCrc     : Word
  frameCount : Word
  /- The observation history (R46), oldest first. -/
  history    : List Obs
  /- The parameters of the step relation (R21), written by no step. -/
  params     : Params
  /- The agents around the block: SRC's unread bytes and whether the stream ends after the last of them, the moves still
  to come, and the request an ABORT or a reset withdrew before it was answered (log entries 4, 5 and 6). The bytes and
  the moves are supplies: finite, an infinite one named by what it repeats, or any infinite one drawn from the free
  values of Config. The spec leaves open which it is (R21, R53, R234), and an infinite pair is R221's run without an end;
  holding them so is the model's choice (log entry 18). -/
  stream     : Supply Byte
  streamEnds : Bool
  inputs     : Supply Input
  withdrawn  : Option Request
  deriving DecidableEq, Repr

/-- The machine right after reset: every field of the block at R44's value, the parameters at the values that match the
source, an empty history, no stream connected and no move to come (log entries 1, 2, 4 and 18). -/
def State.reset : State where
  phase      := .idle
  idx        := 0#32
  mode       := .decode
  ctrlMode   := .dispatch
  hbuf       := Vector.replicate 12 0#8
  version    := 0#8
  typeRaw    := 0#32
  ptype      := .unknown 0#32
  plen       := 0#32
  hcrc       := 0#32
  crc        := 0xFFFFFFFF#32
  pbuf       := []
  pcbuf      := Vector.replicate 4 0#8
  pcrc       := 0#32
  pending    := none
  endSeen    := false
  closed     := false
  errClass   := .none
  errWhere   := .none
  errInfo    := 0#32
  errCrc     := 0#32
  frameCount := 0#32
  history    := []
  params     := Params.source
  stream     := ⟨[], .stops⟩
  streamEnds := false
  inputs     := ⟨[], .stops⟩
  withdrawn  := none

end Sys2Proof.Machine
end

