-- ==== Sys2Proof/Machine/Crc.lean ====
section
/-! DEFINITION. The CRC-32 validator's arithmetic (40_crc32.md). The variant is the spec's own choice, from general
knowledge (R100, I1; log entry 10). -/

namespace Sys2Proof.Machine

/-- The initial register value (R100). -/
def crcInitial : Word := 0xFFFFFFFF#32

/-- One turn of the bit loop of crc_step: shift right by one, and the reflected polynomial when bit 0 is set (R100). -/
def crcBit (c : Word) : Word :=
  if c.getLsbD 0 then (c >>> 1) ^^^ 0xEDB88320#32 else c >>> 1

/-- n turns of the bit loop (R100). -/
def crcBits : Nat → Word → Word
  | 0, c => c
  | n + 1, c => crcBits n (crcBit c)

/-- crc_step: the register after one more byte (R100). -/
def crcStep (c : Word) (b : Byte) : Word := crcBits 8 (c ^^^ b.setWidth 32)

/-- The register after a byte sequence, without the final exclusive or (R101). -/
def crcRegister (bytes : List Byte) : Word := bytes.foldl crcStep crcInitial

/-- crc_final (R100). -/
def crcFinal (c : Word) : Word := c ^^^ 0xFFFFFFFF#32

/-- CRC32 of a byte sequence (R100). -/
def crc32 (bytes : List Byte) : Word := crcFinal (crcRegister bytes)

/-! ### Frames as byte sequences (R87) -/

/-- The first eight bytes of a header: version, type code, payload length (R71). -/
def headerStart (version : Byte) (frameType : Code) (plen : Word) : List Byte :=
  be32Bytes (encodeW0 version frameType) ++ be32Bytes plen

/-- The twelve bytes of a header with its own checksum (R71, R106). -/
def headerBytes (version : Byte) (frameType : Code) (plen : Word) : List Byte :=
  headerStart version frameType plen ++ be32Bytes (crc32 (headerStart version frameType plen))

/-- The bytes after a header: none for an empty body, else the body and its checksum (R73). -/
def payloadBytes (body : List Byte) : List Byte :=
  if body = [] then [] else body ++ be32Bytes (crc32 body)

/-- FRAME(v, T, body): the byte sequence of a frame (R87). -/
def frameBytes (version : Byte) (frameType : Code) (body : List Byte) : List Byte :=
  headerBytes version frameType (BitVec.ofNat 32 body.length) ++ payloadBytes body

end Sys2Proof.Machine
end

