-- ==== Sys2Proof/Machine/Flags.lean ====
section
/-! DEFINITION. The flags and the five host registers, computed from the state (R37 to R42). -/

namespace Sys2Proof.Machine

/-- The 3-bit code of a phase (R23). -/
def Phase.code : Phase → Word
  | .idle => 0#32
  | .hdr => 1#32
  | .pay => 2#32
  | .pcrc => 3#32
  | .emit => 4#32
  | .done => 5#32
  | .error => 6#32
  | .aborted => 7#32

/-- BUSY: phase is HDR, PAY, PCRC or EMIT (R23, R38). -/
def Phase.busy : Phase → Bool
  | .hdr | .pay | .pcrc | .emit => true
  | .idle | .done | .error | .aborted => false

/-- Terminal: phase is DONE, ERROR or ABORTED (R23); the end of a run (R245). -/
def Phase.terminal : Phase → Bool
  | .done | .error | .aborted => true
  | .idle | .hdr | .pay | .pcrc | .emit => false

/-- The phases in which a SrcRead is outstanding (R20, R187). -/
def Phase.reads : Phase → Bool
  | .hdr | .pay | .pcrc => true
  | .idle | .emit | .done | .error | .aborted => false

/-- The code of an error class (R34). -/
def ErrClass.code : ErrClass → Word
  | .none => 0#32
  | .checksum => 1#32
  | .unknownType => 2#32
  | .malformed => 3#32
  | .sink => 4#32
  | .capacity => 5#32

/-- The code of an error's place (R34). -/
def ErrWhere.code : ErrWhere → Word
  | .header => 0#32
  | .payload => 1#32
  | .payloadChecksum => 2#32
  | .none => 3#32

/-- One bit as a word, for the fields of a register. -/
def bit (b : Bool) : Word := (BitVec.ofBool b).setWidth 32

/-- What a read of CTRL gives: MODE at bit 2, everything else 0 (R37, R82). -/
def ctrlWord (s : State) : Word := bit s.ctrlMode.bit <<< 2

/-- What a read of STATUS gives (R38). -/
def statusWord (s : State) : Word :=
  s.phase.code ||| bit s.mode.bit <<< 3 ||| bit s.endSeen <<< 4 ||| bit s.closed <<< 5 |||
    bit s.phase.busy <<< 6 ||| s.errClass.code <<< 8 ||| s.errWhere.code <<< 11

/-- The register map (R55): the value at each offset, and none where no register is. -/
def registerAt (s : State) : Nat → Option Word
  | 0x00 => some (ctrlWord s)
  | 0x04 => some (statusWord s)
  | 0x08 => some s.errInfo
  | 0x0C => some s.errCrc
  | 0x10 => some s.frameCount
  | _ => none

/-- The accesses the register interface defines: 32 bits wide, at one of the five offsets (R56). -/
def accessDefined (off width : Nat) : Bool :=
  width == 32 && (off == 0x00 || off == 0x04 || off == 0x08 || off == 0x0C || off == 0x10)

/-- Where the platform's bus sees the register at an offset (R55). -/
def registerAddress (p : Params) (off : Nat) : Nat := p.base + off

/-- The request BLOCK has outstanding: a SrcRead while it reads, a SnkPut in EMIT (R20). -/
def State.outstanding (s : State) : Option Request :=
  if s.phase.reads then some .srcRead
  else if s.phase = .emit then some .snkPut
  else none

/-- idx lies inside the field being read (R24); in a phase that reads nothing there is no such field. -/
def State.indexInField (s : State) : Bool :=
  match s.phase with
  | .hdr => s.idx.toNat ≤ 11
  | .pay => s.idx.toNat < s.plen.toNat
  | .pcrc => s.idx.toNat ≤ 3
  | .idle | .emit | .done | .error | .aborted => true

end Sys2Proof.Machine
end

