-- ==== Sys2Proof/Machine/Operands.lean ====
section
/-! DEFINITION. The operands of a frame operation: header fields assembled from hbuf (R80), the payload body and its
split into offset and data (R147 to R151). -/

namespace Sys2Proof.Machine

/-! ### Header fields (R71, R72, R80) -/

/-- Header word 0: version and frame type (R72). -/
def headerW0 (h : Vector Byte 12) : Word := be32 h[0] h[1] h[2] h[3]

/-- type_raw: header bytes 1 to 3, left-padded with a zero byte (R58, R80). -/
def headerType (h : Vector Byte 12) : Word := be32 0x00#8 h[1] h[2] h[3]

/-- payloadLength: header bytes 4 to 7 (R80). -/
def headerLength (h : Vector Byte 12) : Word := be32 h[4] h[5] h[6] h[7]

/-- headerChecksum: header bytes 8 to 11 (R80). -/
def headerChecksum (h : Vector Byte 12) : Word := be32 h[8] h[9] h[10] h[11]

/-- The payload checksum from its four bytes (R80). -/
def payloadChecksum (p : Vector Byte 4) : Word := be32 p[0] p[1] p[2] p[3]

/-- Header word 0 put together again from the latched version and type code (R72). -/
def State.latchedW0 (s : State) : Word := encodeW0 s.version (s.typeRaw.setWidth 24)

/-- The operation of the frame whose header is latched: the decoder's reading of its word 0 (R77; log entry 7). -/
def State.frameInstr (s : State) : Instr := decodeW0 s.latchedW0

/-! ### The payload -/

/-- Empty data is absent (R149). -/
def absentIfEmpty (bytes : List Byte) : Option (List Byte) :=
  match bytes with
  | [] => none
  | b :: rest => some (b :: rest)

/-- OFFSET_SIZE (R6). -/
abbrev offsetSize : Nat := 8

/-- The result of SPLIT: offset and data, or the short body that raises MALFORMED (R147 to R151). -/
inductive SplitResult where
  | parts (offset data : Option (List Byte))
  | short (len : Nat)
  deriving DecidableEq, Repr

/-- SPLIT of a body of an offset-bearing type that is shorter than the offset (R148). -/
def splitShort (choice : ShortOffset) (p : List Byte) : SplitResult :=
  match choice with
  | .truncate => .parts (absentIfEmpty p) none
  | .malformed => .short p.length

/-- SPLIT (R147, R148, R150, R151). -/
def split (choice : ShortOffset) (ptype : PType) (body : Option (List Byte)) : SplitResult :=
  match body with
  | none => .parts none none
  | some p =>
    if ptype.hasOffset then
      if offsetSize ≤ p.length then .parts (some (p.take offsetSize)) (absentIfEmpty (p.drop offsetSize))
      else splitShort choice p
    else .parts none (absentIfEmpty p)

/-- The body of the current frame: absent when payloadLength is 0, else what was read (R127, R144). -/
def State.body (s : State) : Option (List Byte) := if s.plen = 0#32 then none else some s.pbuf

/-- The payload checksum of the current frame: absent when payloadLength is 0 (R127, R144). -/
def State.bodyChecksum (s : State) : Option Word := if s.plen = 0#32 then none else some s.pcrc

end Sys2Proof.Machine
end

