-- ==== Sys2Proof/Machine/Ops.lean ====
section
/-! DEFINITION. The operations the rules share: the history, CLOSE (R186), entering the error state (R207) and leaving
it through START (R181), the session's ends (R156), the sink handshake (R153), the CRC register (R102, R103) and the
completion of a frame (R145). Each is one update of the state, so that its effect on a field reads off by rfl. -/

namespace Sys2Proof.Machine

/-! ### History and stream release -/

/-- The history grows by one entry at its end (R46; the order within one step is log entry 15). -/
def State.observe (s : State) (o : Obs) : State := { s with history := s.history ++ [o] }

/-- The history after CLOSE: one more Close unless the session has already closed (R186). -/
def State.historyClosed (s : State) : List Obs := if s.closed then s.history else s.history ++ [.close]

/-- CLOSE: SrcClose at most once a session (R186). -/
def closeStream (s : State) : State := { s with closed := true, history := s.historyClosed }

/-! ### Taking an error, and ending a session -/

/-- raise E(where, info, crc): the entry into the error state, shared by every error of the block (R207). -/
def raise (cls : ErrClass) (wh : ErrWhere) (info crc : Word) (s : State) : State :=
  closeStream { s with
    errClass := cls
    errWhere := wh
    errInfo  := info
    errCrc   := crc
    pending  := none
    phase    := .error
    idx      := 0#32 }

/-- FINISH_OK: the session ends without error (R156). R24 has idx = 0 in DONE; it is 0 wherever FINISH_OK is reached
but after header byte 11 of an empty END frame, where the write below makes it so (log entry 9). -/
def finishOk (s : State) : State := closeStream { s with phase := .done, idx := 0#32 }

/-- CRC_INIT (R102). -/
def crcInit (s : State) : State := { s with crc := crcInitial }

/-- CRC_UPDATE (R103). -/
def crcUpdate (b : Byte) (s : State) : State := { s with crc := crcStep s.crc b }

/-- CRC_CHECK(declared, where): raise CHECKSUM on a mismatch, else go on (R105, R201). -/
def crcCheck (declared : Word) (wh : ErrWhere) (s : State)
    (goOn : State → Host.Outcome State Fault Refusal) : Host.Outcome State Fault Refusal :=
  if crcFinal s.crc = declared then goOn s
  else .next (raise .checksum wh declared (crcFinal s.crc) s)

/-- NEXT_FRAME: back to header byte 0 (R155). -/
def nextFrame (s : State) : State := crcInit { s with phase := .hdr, idx := 0#32 }

/-- OFFER(ev): the event is pending at SNK (R153). R24 has idx = 0 in EMIT (log entry 9). -/
def offer (ev : Event) (s : State) : State := { s with pending := some ev, phase := .emit, idx := 0#32 }

/-! ### Starting and cancelling a session -/

/-- The accepted START: the way out of IDLE and of every terminal phase, the error state among them (R181, R212).
A request withdrawn earlier is forgotten, since HOST connects SRC and SNK anew (R189; log entry 5). -/
def beginSession (s : State) : State :=
  crcInit { s with
    mode       := s.ctrlMode
    endSeen    := false
    closed     := false
    frameCount := 0#32
    pending    := none
    errClass   := .none
    errWhere   := .none
    errInfo    := 0#32
    errCrc     := 0#32
    phase      := .hdr
    idx        := 0#32
    withdrawn  := none }

/-- The accepted ABORT (R182): the pending event is withdrawn, and the outstanding request with it (R211). -/
def cancelSession (s : State) : State :=
  closeStream { s with
    pending   := none
    phase     := .aborted
    idx       := 0#32
    withdrawn := s.outstanding }

/-- Reset, at any time: every field of the block takes R44's value in one step, and no SrcClose is issued (R230, R231).
What lies outside the block stays: the history, the parameters and the agents around it (log entry 6). -/
def resetBlock (s : State) : State :=
  { State.reset with
    history    := s.history
    params     := s.params
    stream     := s.stream
    streamEnds := s.streamEnds
    inputs     := s.inputs
    withdrawn  := s.outstanding.or s.withdrawn }

/-! ### Completing a frame -/

/-- The counters of FRAME_COMPLETE: FRAME_COUNT modulo 2^32, and END_SEEN for an END frame (R145). -/
def countFrame (ptype : PType) (s : State) : State :=
  { s with frameCount := s.frameCount + 1#32, endSeen := if ptype = .endMark then true else s.endSeen }

/-- The Frame that FRAME_COMPLETE builds (R145, R146): version and type are the operation's own, the lengths and
checksums those latched in the state (log entry 7). -/
def State.buildFrame (s : State) (version : Byte) (ptype : PType) (offset data : Option (List Byte)) : Frame where
  version := version
  typeRaw := ptype.code
  ptype   := ptype
  plen    := s.plen
  hcrc    := s.hcrc
  offset  := offset
  data    := data
  pcrc    := s.bodyChecksum

/-- FRAME_COMPLETE (R145): SPLIT, which may raise before the frame is counted (R148), the counters, and the type's
action on the frame. -/
def completeFrame (version : Byte) (ptype : PType) (action : Frame → State → State) (s : State) : State :=
  match split s.params.shortOffset ptype s.body with
  | .short len => raise .malformed .payload (BitVec.ofNat 32 len) 0#32 s
  | .parts offset data => action (s.buildFrame version ptype offset data) (countFrame ptype s)

end Sys2Proof.Machine
end

