-- ==== Sys2Proof/Machine/Commands.lean ====
section
/-! DEFINITION. The CMD operations: what a value written to CTRL does (R180 to R184). Every one of them writes
ctrl_mode first; the reserved bits are ignored (R81, R82). -/

namespace Sys2Proof.Machine

/-- The write of CTRL.MODE that every command begins with (R180). -/
def writeMode (m : Mode) (s : State) : State := { s with ctrlMode := m }

/-- CMD.START (R181): a session begins in IDLE and in a terminal phase, and nothing more happens while BUSY (R235). -/
def execCmdStart (mode : Mode) (_reserved : BitVec 29) (s : State) : Host.Outcome State Fault Refusal :=
  .next (if s.phase.busy then writeMode mode s else beginSession (writeMode mode s))

/-- CMD.ABORT (R182), whatever START says (R184): a BUSY session is cancelled, and elsewhere nothing more happens. -/
def execCmdAbort (_start : Bool) (mode : Mode) (_reserved : BitVec 29) (s : State) :
    Host.Outcome State Fault Refusal :=
  .next (if s.phase.busy then cancelSession (writeMode mode s) else writeMode mode s)

/-- CMD.NOP (R183): the write of CTRL.MODE and nothing else. -/
def execCmdNop (mode : Mode) (_reserved : BitVec 29) (s : State) : Host.Outcome State Fault Refusal :=
  .next (writeMode mode s)

end Sys2Proof.Machine
end

