-- ==== Sys2Proof/Machine/Frames.lean ====
section
/-! DEFINITION. The FRAME operations (43_frame_types.md). Each completes the frame whose header is latched and whose body
is read and checked: FRAME_COMPLETE with the type's own action (R145, R152). -/

namespace Sys2Proof.Machine

/-- The action of FRAME.RECORD (R170). -/
def actRecord (f : Frame) (s : State) : State :=
  match s.mode with
  | .decode => offer (.frame f) s
  | .dispatch => offer (.records f.data) s

/-- The action of FRAME.EXCEPTION (R171). -/
def actException (f : Frame) (s : State) : State :=
  match s.mode with
  | .decode => offer (.frame f) s
  | .dispatch => offer (.exceptions f.data) s

/-- The action of FRAME.STATS (R172). -/
def actStats (f : Frame) (s : State) : State :=
  match s.mode with
  | .decode => offer (.frame f) s
  | .dispatch => offer (.stats f.data) s

/-- The action of FRAME.CONTINUATION: in DISPATCH it is absorbed (R173). -/
def actContinuation (f : Frame) (s : State) : State :=
  match s.mode with
  | .decode => offer (.frame f) s
  | .dispatch => nextFrame s

/-- The action of FRAME.END: in DISPATCH the session ends without an event (R174). -/
def actEnd (f : Frame) (s : State) : State :=
  match s.mode with
  | .decode => offer (.frame f) s
  | .dispatch => finishOk s

/-- The action of FRAME.UNKNOWN: in DISPATCH it raises UNKNOWN_TYPE with the raw code (R175, R202). -/
def actUnknown (f : Frame) (s : State) : State :=
  match s.mode with
  | .decode => offer (.frame f) s
  | .dispatch => raise .unknownType .none f.typeRaw 0#32 s

/-- FRAME.RECORD (R170, R145). -/
def execFrameRecord (version : Byte) (s : State) : Host.Outcome State Fault Refusal :=
  .next (completeFrame version .record actRecord s)

/-- FRAME.EXCEPTION (R171, R145). -/
def execFrameException (version : Byte) (s : State) : Host.Outcome State Fault Refusal :=
  .next (completeFrame version .exception actException s)

/-- FRAME.STATS (R172, R145). -/
def execFrameStats (version : Byte) (s : State) : Host.Outcome State Fault Refusal :=
  .next (completeFrame version .stats actStats s)

/-- FRAME.CONTINUATION (R173, R145). -/
def execFrameContinuation (version : Byte) (s : State) : Host.Outcome State Fault Refusal :=
  .next (completeFrame version .continuation actContinuation s)

/-- FRAME.END (R174, R145). -/
def execFrameEnd (version : Byte) (s : State) : Host.Outcome State Fault Refusal :=
  .next (completeFrame version .endMark actEnd s)

/-- FRAME.UNKNOWN (R175, R145): the raw code is zero-extended to 32 bits (R58, D32). -/
def execFrameUnknown (version : Byte) (frameType : Code) (s : State) : Host.Outcome State Fault Refusal :=
  .next (completeFrame version (.unknown (frameType.setWidth 32)) actUnknown s)

end Sys2Proof.Machine
end

