-- ==== Sys2Proof/Machine/Dispatch.lean ====
section
/-! DEFINITION. exec: one arm per operation of the opcode table. -/

namespace Sys2Proof.Machine

def exec (i : Instr) (s : State) : Host.Outcome State Fault Refusal :=
  match i with
  | .frameRecord v => Sys2Proof.Machine.execFrameRecord v s
  | .frameException v => Sys2Proof.Machine.execFrameException v s
  | .frameStats v => Sys2Proof.Machine.execFrameStats v s
  | .frameContinuation v => Sys2Proof.Machine.execFrameContinuation v s
  | .frameEnd v => Sys2Proof.Machine.execFrameEnd v s
  | .frameUnknown v t => Sys2Proof.Machine.execFrameUnknown v t s
  | .cmdStart m r => Sys2Proof.Machine.execCmdStart m r s
  | .cmdAbort st m r => Sys2Proof.Machine.execCmdAbort st m r s
  | .cmdNop m r => Sys2Proof.Machine.execCmdNop m r s

end Sys2Proof.Machine
end

