-- ==== Sys2Proof/Machine/Block.lean ====
section
/-! DEFINITION. BLOCK's own steps: what it does with SRC's answer to a SrcRead in HDR, PAY and PCRC, and with SNK's
answer in EMIT (41_header_parser.md, 42_payload_framer.md). The step that brings a frame's last byte runs the frame's
operation, by exec. -/

namespace Sys2Proof.Machine

/-! ### The header (R120 to R129) -/

/-- Storing header byte idx; bytes 0 to 7 are fed to the CRC (R120, R106). -/
def storeHeaderByte (b : Byte) (s : State) : State :=
  { s with
    hbuf := s.hbuf.setIfInBounds s.idx.toNat b
    crc  := if s.idx.toNat ≤ 7 then crcStep s.crc b else s.crc }

/-- The fields HDR_COMPLETE writes together (R123, R27). -/
def latchHeader (s : State) : State :=
  { s with
    version := s.hbuf[0]
    typeRaw := headerType s.hbuf
    ptype   := resolve (headerType s.hbuf)
    plen    := headerLength s.hbuf
    hcrc    := headerChecksum s.hbuf }

/-- PAY_BEGIN (R129). -/
def payBegin (s : State) : State := crcInit { s with phase := .pay, idx := 0#32, pbuf := [] }

/-- What HDR_COMPLETE does once the header check has passed: the empty payload's frame operation (R127), the capacity
check (R128) or the body (R129). -/
def afterHeaderCheck (s : State) : Host.Outcome State Fault Refusal :=
  if s.plen = 0#32 then exec s.frameInstr s
  else if s.params.payloadMax.toNat < s.plen.toNat then .next (raise .capacity .header s.plen 0#32 s)
  else .next (payBegin s)

/-- HDR_COMPLETE (R123): the header check comes before the length is used for anything (R124). -/
def headerComplete (s : State) : Host.Outcome State Fault Refusal :=
  crcCheck (latchHeader s).hcrc .header (latchHeader s) afterHeaderCheck

/-- HDR_BYTE (R120). -/
def headerByte (b : Byte) (s : State) : Host.Outcome State Fault Refusal :=
  if s.idx.toNat < 11 then .next { storeHeaderByte b s with idx := s.idx + 1#32 }
  else headerComplete (storeHeaderByte b s)

/-- HDR_EOS_CLEAN (R121) and HDR_EOS_SHORT (R122). -/
def headerEos (s : State) : State :=
  if s.idx = 0#32 then finishOk s else raise .malformed .header s.idx 0#32 s

/-! ### The payload section (R140 to R144) -/

/-- PAY_BYTE (R140). -/
def payloadByte (b : Byte) (s : State) : State :=
  let stored := crcUpdate b { s with pbuf := s.pbuf ++ [b] }
  if s.idx.toNat + 1 < s.plen.toNat then { stored with idx := s.idx + 1#32 }
  else { stored with phase := .pcrc, idx := 0#32 }

/-- PAY_EOS (R141). -/
def payloadEos (s : State) : State := raise .malformed .payload s.idx 0#32 s

/-- Storing payload-checksum byte idx (R142). -/
def storeChecksumByte (b : Byte) (s : State) : State :=
  { s with pcbuf := s.pcbuf.setIfInBounds s.idx.toNat b }

/-- The payload checksum latched from its four bytes (R142). -/
def latchChecksum (s : State) : State := { s with pcrc := payloadChecksum s.pcbuf }

/-- PAYLOAD_CHECK (R144): the check over the whole body, then the frame's operation. -/
def payloadCheck (s : State) : Host.Outcome State Fault Refusal :=
  crcCheck s.pcrc .payload s (fun checked => exec checked.frameInstr checked)

/-- PCRC_BYTE (R142). -/
def checksumByte (b : Byte) (s : State) : Host.Outcome State Fault Refusal :=
  if s.idx.toNat < 3 then .next { storeChecksumByte b s with idx := s.idx + 1#32 }
  else payloadCheck (latchChecksum (storeChecksumByte b s))

/-- PCRC_EOS (R143). -/
def checksumEos (s : State) : State := raise .malformed .payloadChecksum s.idx 0#32 s

/-- BLOCK's step on a byte, by phase. In a phase that asks for none there is no step (R53). -/
def takeByte (b : Byte) (s : State) : Host.Outcome State Fault Refusal :=
  match s.phase with
  | .hdr => headerByte b s
  | .pay => .next (payloadByte b s)
  | .pcrc => checksumByte b s
  | .idle => .refused .srcAnswersNoRequest
  | .emit => .refused .srcAnswersNoRequest
  | .done => .refused .srcAnswersNoRequest
  | .error => .refused .srcAnswersNoRequest
  | .aborted => .refused .srcAnswersNoRequest

/-- BLOCK's step on EOS, by phase. In a phase that asks for no byte there is no step (R53). -/
def takeEos (s : State) : Host.Outcome State Fault Refusal :=
  match s.phase with
  | .hdr => .next (headerEos s)
  | .pay => .next (payloadEos s)
  | .pcrc => .next (checksumEos s)
  | .idle => .refused .srcAnswersNoRequest
  | .emit => .refused .srcAnswersNoRequest
  | .done => .refused .srcAnswersNoRequest
  | .error => .refused .srcAnswersNoRequest
  | .aborted => .refused .srcAnswersNoRequest

/-- BLOCK's step on SRC's answer. Where idx lies outside the field the rules name no byte (R24). -/
def takeSrcAnswer (ans : SrcAnswer) (s : State) : Host.Outcome State Fault Refusal :=
  if s.indexInField then
    match ans with
    | .byte b => takeByte b s
    | .eos => takeEos s
  else .fault .indexOutsideField

/-! ### The sink's answer (R154, R157) -/

/-- EMIT_ACK_OK (R154). -/
def emitAckOk (s : State) : State :=
  if s.ptype = .endMark then finishOk { s with pending := none } else nextFrame { s with pending := none }

/-- EMIT_ACK_ERR (R157, R205). -/
def emitAckErr (s : State) : State := raise .sink .none 0#32 0#32 { s with pending := none }

/-- BLOCK's step on SNK's answer. -/
def takeAck (ack : Ack) (s : State) : State :=
  match ack with
  | .ok => emitAckOk s
  | .err => emitAckErr s

end Sys2Proof.Machine
end

