-- ==== Sys2Proof/Machine/Agents.lean ====
section
/-! DEFINITION. The moves of the agents around the block: SRC and SNK answering, HOST at the registers, reset, and the
platform connecting a stream (20_memory.md, 44_host_commands.md, 70_reset_and_hazards.md). -/

namespace Sys2Proof

/-! ### What is supplied next (R21, R51; log entry 18) -/

/-- The next item of a supply and the supply after it: a written one; else the first of those that repeat, which then
come again; else the free value of the supply's name at its index. A supply that stops has none. -/
def Supply.next {α : Type} (draw : Nat → Nat → α) (u : Supply α) : Option (α × Supply α) :=
  match u.ready, u.after with
  | a :: rest, _ => some (a, { u with ready := rest })
  | [], .stops => none
  | [], .repeats a more => some (a, { u with ready := more })
  | [], .drawn name n => some (draw name n, { u with after := .drawn name (n + 1) })

end Sys2Proof

namespace Sys2Proof.Machine

/-- The next byte of SRC's stream (R51). -/
def State.nextByte (s : State) : Option (Byte × Supply Byte) := s.stream.next Config.freeByte

/-- The next move of an agent (R21). -/
def State.nextMove (s : State) : Option (Input × Supply Input) := s.inputs.next Config.freeMove

/-! ### The moves -/

/-- An answer that comes when no request of that kind is outstanding: the late answer to a withdrawn request is not
taken and changes nothing of the block (R182, R211; log entry 5); any other answers a request that was not made (I16;
log entry 14). -/
def lateAnswer (r : Request) (why : Refusal) (s : State) : Host.Outcome State Fault Refusal :=
  if s.withdrawn = some r then .next { s with withdrawn := none } else .refused why

/-- SRC answers: the next byte of its stream, or EOS at the stream's end (R51, R52). A stream that has neither gives
no answer, and the block goes on waiting (R88, R220). -/
def srcMove (s : State) : Host.Outcome State Fault Refusal :=
  if s.phase.reads then
    match s.nextByte with
    | some (b, rest) => takeSrcAnswer (.byte b) ({ s with stream := rest }.observe (.read (.byte b)))
    | none => if s.streamEnds then takeSrcAnswer .eos (s.observe (.read .eos)) else .next s
  else lateAnswer .srcRead .srcAnswersNoRequest s

/-- SNK answers the pending event (R54). -/
def snkMove (ack : Ack) (s : State) : Host.Outcome State Fault Refusal :=
  if s.phase = .emit then
    match s.pending with
    | some ev => .next (takeAck ack (s.observe (.put ev ack)))
    | none => .fault .noPendingEvent
  else lateAnswer .snkPut .snkAnswersNoRequest s

/-- RegWrite(off, v) (R56): a write to CTRL runs its command (R180), a write to a read-only register changes nothing of
the block, and any other access is refused. -/
def hostWrite (off width : Nat) (v : Word) (s : State) : Host.Outcome State Fault Refusal :=
  if accessDefined off width then
    if off = 0x00 then exec (decodeCtrl v) (s.observe (.regW off v))
    else .next (s.observe (.regW off v))
  else .refused .accessOutsideInterface

/-- RegRead(off) (R56, R185): the register's value goes into the history, and nothing of the block changes. -/
def hostRead (off width : Nat) (s : State) : Host.Outcome State Fault Refusal :=
  if accessDefined off width then
    match registerAt s off with
    | some v => .next (s.observe (.regR off v))
    | none => .refused .accessOutsideInterface
  else .refused .accessOutsideInterface

/-- The platform connects SRC to a stream at its first byte (R189, R233), which a session in progress forbids (R187;
log entry 13). -/
def connectStream (bytes : Supply Byte) (ends : Bool) (s : State) : Host.Outcome State Fault Refusal :=
  if s.phase.busy then .refused .streamIsOwned
  else .next { s with stream := bytes, streamEnds := ends }

/-- One move of an agent. -/
def move (i : Input) (s : State) : Host.Outcome State Fault Refusal :=
  match i with
  | .src => srcMove s
  | .snk ack => snkMove ack s
  | .regWrite off width v => hostWrite off width v s
  | .regRead off width => hostRead off width s
  | .reset => .next (resetBlock s)
  | .connect bytes ends => connectStream bytes ends s

/-! ### Placing an opcode-table word (log entry 3) -/

/-- The twelve header bytes of a frame with header word 0 given, payload length 0 and its right checksum (R71, R106). -/
def emptyFrameHeader (w0 : Word) : Vector Byte 12 :=
  let h := be32Bytes w0 ++ be32Bytes 0#32
  let c := crc32 h
  #v[w0.extractLsb' 24 8, w0.extractLsb' 16 8, w0.extractLsb' 8 8, w0.extractLsb' 0 8, 0#8, 0#8, 0#8, 0#8,
    c.extractLsb' 24 8, c.extractLsb' 16 8, c.extractLsb' 8 8, c.extractLsb' 0 8]

/-- Eleven bytes of an empty frame's header are read; its last byte is the next of the stream, and SRC moves next. -/
def placeFrame (w0 : Word) (s : State) : State :=
  let h := emptyFrameHeader w0
  { s with
    phase  := .hdr
    idx    := 11#32
    hbuf   := h.set 11 0#8
    crc    := crcRegister (h.toList.take 8)
    stream := { s.stream with ready := h[11] :: s.stream.ready }
    inputs := { s.inputs with ready := .src :: s.inputs.ready } }

/-- HOST moves next and writes the value to CTRL. -/
def placeCommand (v : Word) (s : State) : State :=
  { s with inputs := { s.inputs with ready := .regWrite 0x00 32 v :: s.inputs.ready } }

/-- The word of an opcode-table row placed where the next step takes its operation from. -/
def placeTableWord (nbits w : Nat) (s : State) : State :=
  match tableWire nbits w with
  | some (.header (b0 :: b1 :: b2 :: b3 :: _)) => placeFrame (be32 b0 b1 b2 b3) s
  | some (.header _) => s
  | some (.ctrl v) => placeCommand v s
  | none => s

end Sys2Proof.Machine
end

