-- ==== Sys2Proof/Machine/Step.lean ====
section
/-! DEFINITION. One step of the machine, and the placing of a word for it. -/

namespace Sys2Proof.Machine

/-- One step: the next of the moves to come is made (R13, R20). With none to come the machine waits, its state
unchanged until one does (R220); with moves without an end it may run without one (R221). -/
def step (s : State) : Host.Outcome State Fault Refusal :=
  match s.nextMove with
  | none => .next s
  | some (i, rest) => move i { s with inputs := rest }

/-- s with the word of an opcode-table row placed so that step runs exactly its operation (log entry 3). -/
def State.withFetchWord (s : State) (nbits w : Nat) : State := placeTableWord nbits w s

end Sys2Proof.Machine
end

