-- ==== Sys2Proof/Safety.lean ====
section
/-! DEFINITION. What counts as a safe state and a safe step, in the terms the statements use: the invariant that ties the
fields of the state together, what an event may carry, and which states differ only in fields no rule may read. -/

namespace Sys2Proof

/-- The supply u gives the items of a list, one after another, and is the supply v after them. -/
def Supply.Gives {α : Type} (draw : Nat → Nat → α) : List α → Supply α → Supply α → Prop
  | [], u, v => u = v
  | a :: items, u, v => ∃ w, u.next draw = some (a, w) ∧ Supply.Gives draw items w v

end Sys2Proof

namespace Sys2Proof.Machine

/-! ### Events (R86) -/

/-- Data of an event: absent, or at least one byte (R17, R86). -/
def dataWellFormed (d : Option (List Byte)) : Bool := d ≠ some []

/-- An offset of an event: absent, or one to eight bytes (R86). -/
def offsetWellFormed : Option (List Byte) → Bool
  | none => true
  | some p => 1 ≤ p.length && p.length ≤ 8

/-- What an event of R86 may carry, and in which mode it may be offered. -/
def Event.wellFormed (m : Mode) : Event → Bool
  | .frame f => m = .decode && f.typeRaw.toNat < 2 ^ 24 && offsetWellFormed f.offset && dataWellFormed f.data
  | .records d => m = .dispatch && dataWellFormed d
  | .stats d => m = .dispatch && dataWellFormed d
  | .exceptions d => m = .dispatch && dataWellFormed d

/-! ### The invariant -/

/-- The header fields are those of the twelve bytes in hbuf, and the header check has passed on them (R27, R124). -/
structure State.HeaderHeld (s : State) : Prop where
  version  : s.version = s.hbuf[0]
  typeRaw  : s.typeRaw = headerType s.hbuf
  plen     : s.plen = headerLength s.hbuf
  hcrc     : s.hcrc = headerChecksum s.hbuf
  verified : s.hcrc = crc32 (s.hbuf.toList.take 8)

/-- The invariant of the block: what the rules say of its fields together, in every state of every run. -/
structure State.Inv (s : State) : Prop where
  /-- idx lies inside the field being read, and is 0 in every other phase (R24). -/
  index : s.indexInField = true ∧ (s.phase.reads = false → s.idx = 0#32)
  /-- An event is pending exactly in EMIT (R31). -/
  pending : s.pending.isSome = true ↔ s.phase = .emit
  /-- The stream is released exactly in the terminal phases (R33, R186). -/
  closed : s.closed = s.phase.terminal
  /-- An error class is set exactly in ERROR (R206, R236). -/
  errClass : s.errClass ≠ .none ↔ s.phase = .error
  /-- Outside ERROR the error detail reads NONE and 0 (R236). -/
  errDetail : s.phase ≠ .error → s.errWhere = .none ∧ s.errInfo = 0#32 ∧ s.errCrc = 0#32
  /-- The type code is a 24-bit value and the symbolic type is its resolution (R22, R125). -/
  typeCode : s.typeRaw.toNat < 2 ^ 24 ∧ s.ptype = resolve s.typeRaw
  /-- In HDR the CRC register covers the header bytes received, up to byte 7 (R28, R106). -/
  headerCrc : s.phase = .hdr → s.crc = crcRegister (s.hbuf.toList.take (min s.idx.toNat 8))
  /-- From the header check to the sink's answer the header fields are the checked ones (R124). -/
  header : s.phase = .pay ∨ s.phase = .pcrc ∨ s.phase = .emit → s.HeaderHeld
  /-- In PAY the buffer holds the idx bytes received and the CRC register covers them (R28, R29). -/
  payload : s.phase = .pay → s.pbuf.length = s.idx.toNat
  /-- In PCRC the buffer holds the whole body, which is not empty (R43). -/
  wholeBody : s.phase = .pcrc → s.pbuf.length = s.plen.toNat ∧ 0 < s.plen.toNat
  /-- While a payload section is read, the CRC register covers the body and the body fits the buffer (R29, R107). -/
  bodyCrc : s.phase = .pay ∨ s.phase = .pcrc →
    s.crc = crcRegister s.pbuf ∧ s.plen.toNat ≤ s.params.payloadMax.toNat
  /-- A pending event belongs to a frame whose body, when it has one, is complete and checked (R145, R238). -/
  validated : s.phase = .emit → s.plen = 0#32 ∨ (s.pbuf.length = s.plen.toNat ∧ s.pcrc = crc32 s.pbuf)
  /-- END_SEEN is clear while the block reads, and in EMIT it says that the pending frame is an END frame (R32, R160). -/
  endSeen : (s.phase.reads = true → s.endSeen = false) ∧ (s.phase = .emit → (s.endSeen = true ↔ s.ptype = .endMark))
  /-- A pending event carries what R86 allows in the session's mode. -/
  event : ∀ ev, s.pending = some ev → ev.wellFormed s.mode = true
  /-- While a session runs no request of an earlier one is awaited (log entry 5). -/
  withdrawn : s.phase.busy = true → s.withdrawn = none

/-! ### Runs -/

/-- The step answers a next state: neither a fault nor a refusal. -/
def goesOn (s : State) : Prop := ∃ t, step s = .next t

/-- The number of SrcClose requests in a history (R46, R186). -/
def closeCount (h : List Obs) : Nat := h.count .close

/-- The state after one of SRC's bytes is taken from the stream and noted, before BLOCK acts on it (R46, R51). -/
def State.givenByte (s : State) (b : Byte) (stream : Supply Byte) (inputs : Supply Input) : State :=
  { s with stream := stream, inputs := inputs, history := s.history ++ [.read (.byte b)] }

/-- The state after SRC's EOS is noted, before BLOCK acts on it (R46, R51). -/
def State.givenEos (s : State) (inputs : Supply Input) : State :=
  { s with inputs := inputs, history := s.history ++ [.read .eos] }

/-- The next step is SRC's, and its answer is byte b. -/
def State.byteComes (s : State) (b : Byte) (stream : Supply Byte) (inputs : Supply Input) : Prop :=
  s.nextMove = some (.src, inputs) ∧ s.nextByte = some (b, stream)

/-- The next step is SRC's, and its answer is EOS. -/
def State.eosComes (s : State) (inputs : Supply Input) : Prop :=
  s.nextMove = some (.src, inputs) ∧ s.nextByte = none ∧ s.streamEnds = true

/-! ### Fields no rule may read yet (R43) -/

/-- The state with its per-frame fields forgotten; each is put at one fixed value. -/
def State.forgetFrame (s : State) : State :=
  { s with
    hbuf    := State.reset.hbuf
    version := 0#8
    typeRaw := 0#32
    ptype   := .unknown 0#32
    plen    := 0#32
    hcrc    := 0#32
    crc     := crcInitial
    pbuf    := []
    pcbuf   := State.reset.pcbuf
    pcrc    := 0#32 }

/-- Two states agree on every per-frame field that the current phase has written and may still read, and on every
other field: in HDR the header bytes received and the CRC register, in PAY and PCRC the latched header and the body,
in PCRC the checksum bytes received, in EMIT the type (R43, R154). -/
structure State.SameWritten (s t : State) : Prop where
  rest     : s.forgetFrame = t.forgetFrame
  crc      : s.phase.reads = true → s.crc = t.crc
  hbuf     : s.phase = .hdr → s.hbuf.toList.take s.idx.toNat = t.hbuf.toList.take s.idx.toNat
  header   : s.phase = .pay ∨ s.phase = .pcrc →
    s.version = t.version ∧ s.typeRaw = t.typeRaw ∧ s.ptype = t.ptype ∧ s.plen = t.plen ∧ s.hcrc = t.hcrc ∧
      s.pbuf = t.pbuf
  pcbuf    : s.phase = .pcrc → s.pcbuf.toList.take s.idx.toNat = t.pcbuf.toList.take s.idx.toNat
  ptype    : s.phase = .emit → s.ptype = t.ptype

/-- Two outcomes are alike: the same stop, or two next states that agree as SameWritten says. -/
def sameOutcome : Host.Outcome State Fault Refusal → Host.Outcome State Fault Refusal → Prop
  | .next s, .next t => s.SameWritten t
  | .fault f, .fault g => f = g
  | .refused r, .refused q => r = q
  | _, _ => False

end Sys2Proof.Machine
end

