-- ==== Sys2Proof/Certificates/Slice0/Obligations.lean ====
section
/-! DEFINITION. The statements for the provers. Each docstring names the rules of the spec it formalises; a clause that
rests on the model's own choice says so and names the log entry. A statement that fixes a whole next state by a record
update states its frame with it: what the update does not name is unchanged. -/

open Sys2Proof Sys2Proof.Machine

/-! ### Words the statements share -/

/-- The frame that R145 and R146 build, field by field; its checksum is absent when payloadLength is 0 (R127). -/
def Sys2Proof.Machine.frameBuilt (s : State) (version : Byte) (code : Word) (ptype : PType)
    (offset data : Option (List Byte)) : Frame where
  version := version
  typeRaw := code
  ptype   := ptype
  plen    := s.plen
  hcrc    := s.hcrc
  offset  := offset
  data    := data
  pcrc    := if s.plen = 0#32 then none else some s.pcrc

/-- The history after CLOSE: one more Close unless the session has closed already (R186). -/
def Sys2Proof.Machine.closedHistory (s : State) : List Obs :=
  if s.closed = true then s.history else s.history ++ [.close]

/-- The state after `raise E(where, info, crc)`, field by field (R207). -/
def Sys2Proof.Machine.raisedState (s : State) (cls : ErrClass) (wh : ErrWhere) (info crc : Word) : State :=
  { s with
    errClass := cls, errWhere := wh, errInfo := info, errCrc := crc, pending := none, phase := .error, idx := 0#32,
    closed := true, history := closedHistory s }

/-- The data of a type without an offset: the whole body, absent when there is none (R127, R149, R150). -/
def Sys2Proof.Machine.wholeBodyData (s : State) : Option (List Byte) :=
  if s.plen = 0#32 ∨ s.pbuf = [] then none else some s.pbuf

/-- The offset of an offset-bearing type: the first 8 body bytes, or all of a shorter body, absent when there is no body
(R147, R148, R151). -/
def Sys2Proof.Machine.strippedOffset (s : State) : Option (List Byte) :=
  if s.plen = 0#32 ∨ s.pbuf = [] then none else some (s.pbuf.take 8)

/-- The data of an offset-bearing type: the body after its first 8 bytes, absent when nothing is left (R147 to R151). -/
def Sys2Proof.Machine.strippedData (s : State) : Option (List Byte) :=
  if s.plen = 0#32 ∨ s.pbuf.length ≤ 8 then none else some (s.pbuf.drop 8)

/-- An offset-bearing frame is not turned away for a short offset: it has no body, or one of at least 8 bytes, or
P_SHORT_OFFSET is TRUNCATE (R148). -/
def Sys2Proof.Machine.offsetAccepted (s : State) : Prop :=
  s.plen = 0#32 ∨ 8 ≤ s.pbuf.length ∨ s.params.shortOffset = .truncate

/-- The input that comes next is a write to CTRL that decodes to CMD.START. -/
def Sys2Proof.Machine.startComes (s : State) : Prop :=
  ∃ v m r rest, s.nextMove = some (.regWrite 0x00 32 v, rest) ∧ decodeCtrl v = .cmdStart m r

/-- The input that comes next is reset. -/
def Sys2Proof.Machine.resetComes (s : State) : Prop := ∃ rest, s.nextMove = some (.reset, rest)

/-- The input that comes next connects a stream. -/
def Sys2Proof.Machine.connectComes (s : State) : Prop := ∃ bytes ends rest, s.nextMove = some (.connect bytes ends, rest)

/-- An entry of the history that is a read of SRC. -/
def Sys2Proof.Machine.isRead (o : Obs) : Prop := ∃ a, o = .read a

/-- An entry of the history that is a host access. -/
def Sys2Proof.Machine.isHostAccess (o : Obs) : Prop := ∃ off v, o = .regW off v ∨ o = .regR off v

/-! ### Encoding -/

/-- Decoding inverts encoding for every well-formed instruction, every field at every value, and a frame's header word
leaves the bytes after it (R72, R77, R81). -/
def Obligations.DecodeInvertsEncode : Prop :=
  ∀ i : Instr, i.wellFormed = true →
    decode (encode i) = .ok (i, []) ∧
    ∀ bytes rest, encode i = .header bytes → decode (.header (bytes ++ rest)) = .ok (i, rest)

/-- Every header word and every CTRL value decodes to one well-formed instruction of its format, whose word it is: no
encoding is illegal and no bit is dropped (R77, R81, R89). -/
def Obligations.EveryWordIsOneInstruction : Prop :=
  ∀ w : Word,
    ((decodeW0 w).wellFormed = true ∧ (decodeW0 w).tableRow.format = .frameHdrW0 ∧ (decodeW0 w).word = w) ∧
    ((decodeCtrl w).wellFormed = true ∧ (decodeCtrl w).tableRow.format = .ctrlWrite ∧ (decodeCtrl w).word = w)

/-- R77, which the spec marks as derived from R72 and R76: decoding the type is a match on header word 0, with the
patterns it lists, the default row last, and the version bits left out. -/
def Obligations.TypeIsMatchedOnHeaderWord : Prop :=
  ∀ w0 : Word,
    (w0 &&& 0x00FFFFFF#32 = 0x00800001#32 → decodeW0 w0 = .frameRecord (w0.extractLsb' 24 8)) ∧
    (w0 &&& 0x00FFFFFF#32 = 0x00800002#32 → decodeW0 w0 = .frameException (w0.extractLsb' 24 8)) ∧
    (w0 &&& 0x00FFFFFF#32 = 0x00800003#32 → decodeW0 w0 = .frameStats (w0.extractLsb' 24 8)) ∧
    (w0 &&& 0x00FFFFFF#32 = 0x00800004#32 → decodeW0 w0 = .frameContinuation (w0.extractLsb' 24 8)) ∧
    (w0 &&& 0x00FFFFFF#32 = 0x00800005#32 → decodeW0 w0 = .frameEnd (w0.extractLsb' 24 8)) ∧
    (w0 &&& 0x00FFFFFF#32 ∉ [0x00800001#32, 0x00800002#32, 0x00800003#32, 0x00800004#32, 0x00800005#32] →
      ∃ t : Code, decodeW0 w0 = .frameUnknown (w0.extractLsb' 24 8) t ∧ t.setWidth 32 = w0 &&& 0x00FFFFFF#32) ∧
    (∀ i j : Instr, i.tableRow.mask = 0x00FFFFFF#32 → j.tableRow.mask = 0x00FFFFFF#32 →
      w0 &&& i.tableRow.mask = i.tableRow.pattern → w0 &&& j.tableRow.mask = j.tableRow.pattern →
      i.tableRow = j.tableRow) ∧
    (∀ w1 : Word, w1 &&& 0x00FFFFFF#32 = w0 &&& 0x00FFFFFF#32 → (decodeW0 w1).tableRow = (decodeW0 w0).tableRow)

/-- R81: every value written to CTRL is one command, writes ctrl_mode, and its reserved bits change nothing. -/
def Obligations.CtrlValueIsOneCommand : Prop :=
  ∀ v : Word,
    (v.getLsbD 1 = true → ∃ st m r, decodeCtrl v = .cmdAbort st m r) ∧
    (v.getLsbD 1 = false → v.getLsbD 0 = true → ∃ m r, decodeCtrl v = .cmdStart m r) ∧
    (v.getLsbD 1 = false → v.getLsbD 0 = false → ∃ m r, decodeCtrl v = .cmdNop m r) ∧
    (∀ s : State, ∃ t, exec (decodeCtrl v) s = .next t ∧
      t.ctrlMode = if v.getLsbD 2 = true then .dispatch else .decode) ∧
    (∀ u : Word, u.extractLsb' 0 3 = v.extractLsb' 0 3 → ∀ s : State, exec (decodeCtrl u) s = exec (decodeCtrl v) s)

/-- Words of the spec's encodings and what they decode to: the headers H1, H11 and H9 and the CTRL values of K3, K7 and
K12 (95_test_vectors.md). A sanity statement. -/
def Obligations.SampleWordsDecode : Prop :=
  decode? (.header [0x00#8, 0x80#8, 0x00#8, 0x01#8]) = some (.frameRecord 0x00#8) ∧
  decode? (.header [0xFF#8, 0x80#8, 0x00#8, 0x05#8]) = some (.frameEnd 0xFF#8) ∧
  decode? (.header [0x00#8, 0xFF#8, 0xFF#8, 0xFF#8]) = some (.frameUnknown 0x00#8 0xFFFFFF#24) ∧
  decode? (.ctrl 0x5#32) = some (.cmdStart .dispatch 0#29) ∧
  decode? (.ctrl 0x7#32) = some (.cmdAbort true .dispatch 0#29) ∧
  decode? (.ctrl 0xFFFFFFF9#32) = some (.cmdStart .decode 0x1FFFFFFF#29)

/-- R57: payloadLength, headerChecksum, the payload checksum and the padded frame type are read big-endian and
unsigned, the first byte on the stream the most significant. -/
def Obligations.NumericFieldsAreBigEndian : Prop :=
  (∀ h : Vector Byte 12,
    (headerLength h).toNat = h[4].toNat * 2 ^ 24 + h[5].toNat * 2 ^ 16 + h[6].toNat * 2 ^ 8 + h[7].toNat ∧
    (headerChecksum h).toNat = h[8].toNat * 2 ^ 24 + h[9].toNat * 2 ^ 16 + h[10].toNat * 2 ^ 8 + h[11].toNat ∧
    (headerType h).toNat = h[1].toNat * 2 ^ 16 + h[2].toNat * 2 ^ 8 + h[3].toNat) ∧
  (∀ p : Vector Byte 4,
    (payloadChecksum p).toNat = p[0].toNat * 2 ^ 24 + p[1].toNat * 2 ^ 16 + p[2].toNat * 2 ^ 8 + p[3].toNat)

/-! ### A step runs the decoded instruction -/

/-- The step that brings the last header byte of a frame with payloadLength 0 whose header check passes is exec of the
instruction those twelve bytes decode to, with the header fields latched (R120, R123, R127). -/
def Obligations.StepRunsEmptyFrame : Prop :=
  ∀ (s : State) (b : Byte) (bytes : Supply Byte) (rest : Supply Input) (i : Instr) (more : List Byte),
    s.phase = .hdr → s.idx = 11#32 → s.byteComes b bytes rest →
    decode (.header (s.hbuf.set 11 b).toList) = .ok (i, more) →
    headerLength (s.hbuf.set 11 b) = 0#32 →
    crcFinal s.crc = headerChecksum (s.hbuf.set 11 b) →
    step s = exec i { s.givenByte b bytes rest with
      hbuf    := s.hbuf.set 11 b
      version := (s.hbuf.set 11 b)[0]
      typeRaw := headerType (s.hbuf.set 11 b)
      ptype   := resolve (headerType (s.hbuf.set 11 b))
      plen    := 0#32
      hcrc    := headerChecksum (s.hbuf.set 11 b) }

/-- The step that brings the last payload-checksum byte of a frame whose payload check passes is exec of the
instruction the frame's header bytes decode to, with the payload checksum latched (R142, R144, R145). -/
def Obligations.StepRunsFrameWithPayload : Prop :=
  ∀ (s : State) (b : Byte) (bytes : Supply Byte) (rest : Supply Input) (i : Instr) (more : List Byte),
    s.Inv → s.phase = .pcrc → s.idx = 3#32 → s.byteComes b bytes rest →
    decode (.header s.hbuf.toList) = .ok (i, more) →
    crcFinal s.crc = payloadChecksum (s.pcbuf.set 3 b) →
    step s = exec i { s.givenByte b bytes rest with
      pcbuf := s.pcbuf.set 3 b
      pcrc  := payloadChecksum (s.pcbuf.set 3 b) }

/-- The step that takes a host write to CTRL is exec of the command the value decodes to, with the access in the
history (R56, R180, R46). -/
def Obligations.StepRunsCommand : Prop :=
  ∀ (s : State) (v : Word) (rest : Supply Input) (i : Instr) (more : List Byte),
    s.nextMove = some (.regWrite 0x00 32 v, rest) → decode (.ctrl v) = .ok (i, more) →
    step s = exec i { s with inputs := rest, history := s.history ++ [.regW 0x00 v] }

/-- With no input to come the block waits and nothing changes, in a BUSY phase as in any other (R220); nor does SRC's
turn change anything while its stream has neither a byte nor an end (R88, R221). That the model waits instead of
stopping is its reading of these rules (log entry 4). -/
def Obligations.WaitingChangesNothing : Prop :=
  (∀ s : State, s.nextMove = none → step s = .next s) ∧
  (∀ (s : State) (rest : Supply Input), s.phase.reads = true → s.nextMove = some (.src, rest) → s.nextByte = none →
    s.streamEnds = false → step s = .next { s with inputs := rest })

/-! ### The CRC -/

/-- The CRC register's function is the one R100 writes out, and has R110's values. One byte is exclusive-ored into the
low bits of the register, and then eight times the register is shifted right by one, with 0xEDB88320 exclusive-ored in
when bit 0 was set; the register starts at 0xFFFFFFFF; the final exclusive or is with 0xFFFFFFFF (R100 to R104, R110).
The variant is the spec's own choice, which it marks as general knowledge, and the model takes it as PRESUMED (log entry
10). -/
def Obligations.CrcIsThatOfR100 : Prop :=
  (∀ (c : Word) (b : Byte) (r : Nat → Word), r 0 = c ^^^ b.setWidth 32 →
    (∀ k, k < 8 → r (k + 1) = if (r k).getLsbD 0 = true then (r k >>> 1) ^^^ 0xEDB88320#32 else r k >>> 1) →
    crcStep c b = r 8) ∧
  (∀ c : Word, crcFinal c = c ^^^ 0xFFFFFFFF#32) ∧
  (∀ p : List Byte, crc32 p = crcFinal (p.foldl crcStep 0xFFFFFFFF#32) ∧
    crcRegister p = p.foldl crcStep 0xFFFFFFFF#32) ∧
  (∀ s : State, crcInit s = { s with crc := 0xFFFFFFFF#32 }) ∧
  (∀ (b : Byte) (s : State), crcUpdate b s = { s with crc := crcStep s.crc b }) ∧
  crcStep 0xFFFFFFFF#32 0x00#8 = 0x2DFD1072#32 ∧ crcFinal 0x2DFD1072#32 = 0xD202EF8D#32 ∧
  crc32 [0x31#8, 0x32#8, 0x33#8, 0x34#8, 0x35#8, 0x36#8, 0x37#8, 0x38#8, 0x39#8] = 0xCBF43926#32 ∧
  crc32 [] = 0x00000000#32 ∧ crc32 [0x00#8] = 0xD202EF8D#32 ∧ crc32 [0x61#8] = 0xE8B7BE43#32 ∧
  crc32 [0xFF#8, 0xFF#8, 0xFF#8, 0xFF#8] = 0xFFFFFFFF#32 ∧ crc32 (List.replicate 8 0x00#8) = 0x6522DF69#32 ∧
  crc32 [0x68#8, 0x65#8, 0x6C#8, 0x6C#8, 0x6F#8] = 0x3610A686#32

/-! ### The header -/

/-- R120, R123, R128, R129: what a header byte does. Bytes 0 to 10 are stored, and 0 to 7 fed to the CRC. Byte 11
completes the header: the fields are latched, the header check comes before anything else, then the empty payload's
operation, the capacity check, or the start of the body. -/
def Obligations.HeaderByteRule : Prop :=
  ∀ (s : State) (b : Byte) (bytes : Supply Byte) (rest : Supply Input),
    s.phase = .hdr → s.byteComes b bytes rest →
    (∀ k : Fin 11, s.idx = BitVec.ofNat 32 k →
      step s = .next { s.givenByte b bytes rest with
        hbuf := s.hbuf.set k b
        crc  := if (k : Nat) ≤ 7 then crcStep s.crc b else s.crc
        idx  := BitVec.ofNat 32 (k + 1) }) ∧
    (s.idx = 11#32 → ∀ (h : Vector Byte 12) (u : State), h = s.hbuf.set 11 b →
      u = { s.givenByte b bytes rest with
        hbuf    := h
        version := h[0]
        typeRaw := be32 0x00#8 h[1] h[2] h[3]
        ptype   := resolve (be32 0x00#8 h[1] h[2] h[3])
        plen    := be32 h[4] h[5] h[6] h[7]
        hcrc    := be32 h[8] h[9] h[10] h[11] } →
      step s =
        if crcFinal s.crc ≠ u.hcrc then .next (raisedState u .checksum .header u.hcrc (crcFinal s.crc))
        else if u.plen = 0#32 then exec (decodeW0 (be32 h[0] h[1] h[2] h[3])) u
        else if u.params.payloadMax.toNat < u.plen.toNat then .next (raisedState u .capacity .header u.plen 0#32)
        else .next { u with phase := .pay, idx := 0#32, pbuf := [], crc := 0xFFFFFFFF#32 })

/-- R121, R122, R141, R143: EOS at header byte 0 ends the session without error, and EOS anywhere else inside a frame
is MALFORMED with the number of bytes of the field received. -/
def Obligations.EosRule : Prop :=
  ∀ (s : State) (rest : Supply Input), s.eosComes rest →
    (s.phase = .hdr → s.idx = 0#32 →
      step s = .next { s.givenEos rest with
        phase := .done, closed := true, history := closedHistory (s.givenEos rest) }) ∧
    (s.phase = .hdr → 1 ≤ s.idx.toNat → s.idx.toNat ≤ 11 →
      step s = .next (raisedState (s.givenEos rest) .malformed .header s.idx 0#32)) ∧
    (s.phase = .pay → s.idx.toNat < s.plen.toNat →
      step s = .next (raisedState (s.givenEos rest) .malformed .payload s.idx 0#32)) ∧
    (s.phase = .pcrc → s.idx.toNat ≤ 3 →
      step s = .next (raisedState (s.givenEos rest) .malformed .payloadChecksum s.idx 0#32))

/-! ### The payload -/

/-- R140: a body byte is appended and fed to the CRC; the last one turns the phase to PCRC. -/
def Obligations.PayloadByteRule : Prop :=
  ∀ (s : State) (b : Byte) (bytes : Supply Byte) (rest : Supply Input),
    s.phase = .pay → s.idx.toNat < s.plen.toNat → s.byteComes b bytes rest →
    (s.idx.toNat + 1 < s.plen.toNat →
      step s = .next { s.givenByte b bytes rest with
        pbuf := s.pbuf ++ [b], crc := crcStep s.crc b, idx := BitVec.ofNat 32 (s.idx.toNat + 1) }) ∧
    (s.idx.toNat + 1 = s.plen.toNat →
      step s = .next { s.givenByte b bytes rest with
        pbuf := s.pbuf ++ [b], crc := crcStep s.crc b, phase := .pcrc, idx := 0#32 })

/-- R142, R144: checksum bytes are stored and not fed to the CRC; the fourth one latches the checksum, and the payload
check raises CHECKSUM or completes the frame by the operation of its header word. -/
def Obligations.ChecksumByteRule : Prop :=
  ∀ (s : State) (b : Byte) (bytes : Supply Byte) (rest : Supply Input),
    s.Inv → s.phase = .pcrc → s.byteComes b bytes rest →
    (∀ k : Fin 3, s.idx = BitVec.ofNat 32 k →
      step s = .next { s.givenByte b bytes rest with pcbuf := s.pcbuf.set k b, idx := BitVec.ofNat 32 (k + 1) }) ∧
    (s.idx = 3#32 → ∀ (p : Vector Byte 4) (u : State), p = s.pcbuf.set 3 b →
      u = { s.givenByte b bytes rest with pcbuf := p, pcrc := be32 p[0] p[1] p[2] p[3] } →
      step s =
        if crcFinal s.crc = u.pcrc then exec (decodeW0 (headerW0 s.hbuf)) u
        else .next (raisedState u .checksum .payload u.pcrc (crcFinal s.crc)))

/-- R147, R150, R151: how a body is split into offset and data, and what an empty payload gives. -/
def Obligations.SplitRules : Prop :=
  ∀ (c : ShortOffset) (t : PType) (p : List Byte),
    (t = .record ∨ t = .stats ∨ t = .continuation → 8 ≤ p.length →
      split c t (some p) = .parts (some (p.take 8)) (if p.length = 8 then none else some (p.drop 8))) ∧
    (t = .exception ∨ t = .endMark ∨ (∃ r, t = .unknown r) → 1 ≤ p.length →
      split c t (some p) = .parts none (some p)) ∧
    split c t none = .parts none none ∧
    (∀ s : State, s.plen = 0#32 → s.body = none ∧ s.bodyChecksum = none) ∧
    (∀ s : State, s.plen ≠ 0#32 → s.body = some s.pbuf ∧ s.bodyChecksum = some s.pcrc)

/-- R148: an offset-bearing frame with 1 to 7 body bytes. Under TRUNCATE the offset is the whole body and the data are
absent; under MALFORMED the operation raises the error and the frame is not counted. -/
def Obligations.ShortOffsetRule : Prop :=
  ∀ (i : Instr) (v : Byte) (t : PType) (s : State),
    (i = .frameRecord v ∧ t = .record) ∨ (i = .frameStats v ∧ t = .stats) ∨
      (i = .frameContinuation v ∧ t = .continuation) →
    s.plen ≠ 0#32 → 1 ≤ s.pbuf.length → s.pbuf.length ≤ 7 →
    (s.params.shortOffset = .truncate →
      split s.params.shortOffset t s.body = .parts (some s.pbuf) none) ∧
    (s.params.shortOffset = .malformed →
      exec i s = .next (raisedState s .malformed .payload (BitVec.ofNat 32 s.pbuf.length) 0#32))

/-- Empty data is absent: whatever is split, and for every parameter and type, offset and data are never the empty
sequence (R17, R86, R149). -/
def Obligations.EmptyDataIsAbsent : Prop :=
  ∀ (c : ShortOffset) (t : PType) (body o d : Option (List Byte)),
    split c t body = .parts o d → d ≠ some [] ∧ o ≠ some [] ∧ ∀ p, o = some p → p.length ≤ 8

/-! ### The frame operations. The index in EMIT and DONE is left free here; log entry 9 says what the model does. -/

/-- R170: FRAME.RECORD counts the frame and offers it: the whole frame in DECODE, its data in DISPATCH, absent data
included. -/
def Obligations.RecordIsOffered : Prop :=
  ∀ (v : Byte) (s : State), offsetAccepted s →
    ∃ n, exec (.frameRecord v) s = .next { s with
      frameCount := s.frameCount + 1#32
      phase      := .emit
      idx        := n
      pending    := some (match s.mode with
        | .decode => .frame (frameBuilt s v 0x00800001#32 .record (strippedOffset s) (strippedData s))
        | .dispatch => .records (strippedData s)) }

/-- R171: FRAME.EXCEPTION counts the frame and offers it, its whole body unparsed as the data, in every state. -/
def Obligations.ExceptionIsOffered : Prop :=
  ∀ (v : Byte) (s : State),
    ∃ n, exec (.frameException v) s = .next { s with
      frameCount := s.frameCount + 1#32
      phase      := .emit
      idx        := n
      pending    := some (match s.mode with
        | .decode => .frame (frameBuilt s v 0x00800002#32 .exception none (wholeBodyData s))
        | .dispatch => .exceptions (wholeBodyData s)) }

/-- R172: FRAME.STATS counts the frame and offers it, the offset stripped. -/
def Obligations.StatsAreOffered : Prop :=
  ∀ (v : Byte) (s : State), offsetAccepted s →
    ∃ n, exec (.frameStats v) s = .next { s with
      frameCount := s.frameCount + 1#32
      phase      := .emit
      idx        := n
      pending    := some (match s.mode with
        | .decode => .frame (frameBuilt s v 0x00800003#32 .stats (strippedOffset s) (strippedData s))
        | .dispatch => .stats (strippedData s)) }

/-- R173: FRAME.CONTINUATION is offered in DECODE and absorbed in DISPATCH: counted, no event, the next header. -/
def Obligations.ContinuationIsAbsorbed : Prop :=
  ∀ (v : Byte) (s : State), offsetAccepted s →
    (s.mode = .decode → ∃ n, exec (.frameContinuation v) s = .next { s with
      frameCount := s.frameCount + 1#32
      phase      := .emit
      idx        := n
      pending    := some (.frame (frameBuilt s v 0x00800004#32 .continuation (strippedOffset s) (strippedData s))) }) ∧
    (s.mode = .dispatch → exec (.frameContinuation v) s = .next { s with
      frameCount := s.frameCount + 1#32
      phase      := .hdr
      idx        := 0#32
      crc        := 0xFFFFFFFF#32 })

/-- R174: FRAME.END sets END_SEEN; in DISPATCH the session ends at once, without an event, and in DECODE the frame is
offered and the session ends at the OK answer. -/
def Obligations.EndEndsTheSession : Prop :=
  (∀ (v : Byte) (s : State),
    (s.mode = .decode → ∃ n, exec (.frameEnd v) s = .next { s with
      frameCount := s.frameCount + 1#32
      endSeen    := true
      phase      := .emit
      idx        := n
      pending    := some (.frame (frameBuilt s v 0x00800005#32 .endMark none (wholeBodyData s))) }) ∧
    (s.mode = .dispatch → ∃ n, exec (.frameEnd v) s = .next { s with
      frameCount := s.frameCount + 1#32
      endSeen    := true
      phase      := .done
      idx        := n
      closed     := true
      history    := closedHistory s })) ∧
  (∀ (s : State) (ev : Event) (rest : Supply Input),
    s.phase = .emit → s.pending = some ev → s.ptype = .endMark → s.nextMove = some (.snk .ok, rest) →
    ∃ t, step s = .next t ∧ t.phase = .done ∧ t.closed = true ∧ t.endSeen = s.endSeen)

/-- R175: FRAME.UNKNOWN is offered in DECODE, its whole body the data, and in DISPATCH raises UNKNOWN_TYPE with the raw
code after the frame is counted, with no event. -/
def Obligations.UnknownIsRecordedOrRejected : Prop :=
  ∀ (v : Byte) (c : Code) (s : State),
    (s.mode = .decode → ∃ n, exec (.frameUnknown v c) s = .next { s with
      frameCount := s.frameCount + 1#32
      phase      := .emit
      idx        := n
      pending    := some (.frame
        (frameBuilt s v (c.setWidth 32) (.unknown (c.setWidth 32)) none (wholeBodyData s))) }) ∧
    (s.mode = .dispatch → exec (.frameUnknown v c) s =
      .next (raisedState { s with frameCount := s.frameCount + 1#32 } .unknownType .none (c.setWidth 32) 0#32))

/-- The frame of the six FRAME operations: whatever they do, the latched header, the body, the checksums, the mode,
CTRL, the parameters and the agents around the block stay, the CRC register changes only on the way to the next header,
and the history grows by one Close at most. -/
def Obligations.FrameOperationsLeaveTheRest : Prop :=
  ∀ (i : Instr) (s t : State), i.tableRow.format = .frameHdrW0 → exec i s = .next t →
    t = { s with
      phase := t.phase, idx := t.idx, crc := t.crc, pending := t.pending, endSeen := t.endSeen, closed := t.closed,
      errClass := t.errClass, errWhere := t.errWhere, errInfo := t.errInfo, errCrc := t.errCrc,
      frameCount := t.frameCount, history := t.history } ∧
    (t.crc = s.crc ∨ (t.phase = .hdr ∧ t.crc = crcInitial)) ∧
    (t.endSeen = s.endSeen ∨ ∃ v, i = .frameEnd v) ∧
    (t.frameCount = s.frameCount + 1#32 ∨ (t.frameCount = s.frameCount ∧ t.errClass = .malformed)) ∧
    (t.history = s.history ∨ t.history = s.history ++ [.close])

/-! ### The sink's answer -/

/-- R154: SNK answers OK. The session ends if the frame was END, and otherwise the next header begins. The index in
DONE is left free (log entry 9). -/
def Obligations.SinkOkRule : Prop :=
  ∀ (s : State) (ev : Event) (rest : Supply Input),
    s.phase = .emit → s.pending = some ev → s.nextMove = some (.snk .ok, rest) →
    (s.ptype = .endMark → ∃ n, step s = .next { s with
      inputs  := rest
      pending := none
      phase   := .done
      idx     := n
      closed  := true
      history := closedHistory { s with history := s.history ++ [.put ev .ok] } }) ∧
    (s.ptype ≠ .endMark → step s = .next { s with
      inputs  := rest
      pending := none
      phase   := .hdr
      idx     := 0#32
      crc     := 0xFFFFFFFF#32
      history := s.history ++ [.put ev .ok] })

/-- R157, R205: SNK answers ERR. The event is cleared and SINK is raised with where NONE, ERR_INFO and ERR_CRC 0. -/
def Obligations.SinkErrorRule : Prop :=
  ∀ (s : State) (ev : Event) (rest : Supply Input),
    s.phase = .emit → s.pending = some ev → s.nextMove = some (.snk .err, rest) →
    step s = .next (raisedState { s with inputs := rest, history := s.history ++ [.put ev .err] } .sink .none 0#32 0#32)

/-! ### Host commands and registers -/

/-- R181, R235: START begins a session in IDLE and in a terminal phase, with the fields R181 lists and the per-frame
fields not cleared; while BUSY it does nothing but write ctrl_mode. The field withdrawn is the model's own and left
free (log entry 5). -/
def Obligations.StartRule : Prop :=
  ∀ (m : Mode) (r : BitVec 29) (s : State),
    (s.phase = .idle ∨ s.phase = .done ∨ s.phase = .error ∨ s.phase = .aborted →
      ∃ w, exec (.cmdStart m r) s = .next { s with
        ctrlMode   := m
        mode       := m
        endSeen    := false
        closed     := false
        frameCount := 0#32
        pending    := none
        errClass   := .none
        errWhere   := .none
        errInfo    := 0#32
        errCrc     := 0#32
        phase      := .hdr
        idx        := 0#32
        crc        := 0xFFFFFFFF#32
        withdrawn  := w }) ∧
    (s.phase = .hdr ∨ s.phase = .pay ∨ s.phase = .pcrc ∨ s.phase = .emit →
      exec (.cmdStart m r) s = .next { s with ctrlMode := m })

/-- R182, R184: ABORT, with START set or not, withdraws the pending event, closes the stream and ends a BUSY session in
ABORTED; elsewhere it does nothing but write ctrl_mode. The field withdrawn is the model's own and left free. -/
def Obligations.AbortRule : Prop :=
  ∀ (st : Bool) (m : Mode) (r : BitVec 29) (s : State),
    (s.phase = .hdr ∨ s.phase = .pay ∨ s.phase = .pcrc ∨ s.phase = .emit →
      ∃ w, exec (.cmdAbort st m r) s = .next { s with
        ctrlMode  := m
        pending   := none
        phase     := .aborted
        idx       := 0#32
        closed    := true
        history   := closedHistory s
        withdrawn := w }) ∧
    (s.phase = .idle ∨ s.phase = .done ∨ s.phase = .error ∨ s.phase = .aborted →
      exec (.cmdAbort st m r) s = .next { s with ctrlMode := m })

/-- R183: NOP writes ctrl_mode and nothing else; STATUS does not change and CTRL.MODE reads back. -/
def Obligations.NopRule : Prop :=
  ∀ (m : Mode) (r : BitVec 29) (s : State),
    ∃ t, exec (.cmdNop m r) s = .next t ∧ t = { s with ctrlMode := m } ∧ registerAt t 0x04 = registerAt s 0x04 ∧
      registerAt t 0x00 = some (if m = .dispatch then 0x4#32 else 0x0#32)

/-- An answer that comes after the ABORT that withdrew its request has no effect on the block, the stream or the
history, however many moves lie between: only the model's note of the request goes (R182, R211; log entry 5). An ABORT
in a reading phase leaves SRC's request withdrawn, one in EMIT leaves SNK's; in every state in ABORTED with a request
withdrawn its answer has no effect; and a step in ABORTED that is no answer, no START and no reset keeps the phase and
the withdrawn request. -/
def Obligations.AnswerAfterAbortHasNoEffect : Prop :=
  (∀ (st : Bool) (m : Mode) (r : BitVec 29) (s : State),
    (s.phase.reads = true →
      ∃ t, exec (.cmdAbort st m r) s = .next t ∧ t.phase = .aborted ∧ t.withdrawn = some .srcRead) ∧
    (s.phase = .emit →
      ∃ t, exec (.cmdAbort st m r) s = .next t ∧ t.phase = .aborted ∧ t.withdrawn = some .snkPut)) ∧
  (∀ (s : State) (rest : Supply Input), s.phase = .aborted →
    (s.withdrawn = some .srcRead → s.nextMove = some (.src, rest) →
      step s = .next { s with inputs := rest, withdrawn := none }) ∧
    (s.withdrawn = some .snkPut → ∀ a : Ack, s.nextMove = some (.snk a, rest) →
      step s = .next { s with inputs := rest, withdrawn := none })) ∧
  (∀ s t : State, s.phase = .aborted → step s = .next t → ¬ startComes s → ¬ resetComes s →
    (∀ rest, s.nextMove ≠ some (.src, rest)) → (∀ a rest, s.nextMove ≠ some (.snk a, rest)) →
    t.phase = .aborted ∧ t.withdrawn = s.withdrawn)

/-- R56: host accesses. At the five offsets a 32-bit read gives the register's value and changes nothing of the block,
a write to CTRL runs its command, a write to a read-only register is ignored, and any other access is refused. -/
def Obligations.HostAccessRule : Prop :=
  ∀ (s : State) (off width : Nat) (v : Word) (rest : Supply Input),
    (width = 32 → off ∈ [0x00, 0x04, 0x08, 0x0C, 0x10] → s.nextMove = some (.regRead off width, rest) →
      ∃ x, registerAt s off = some x ∧
        step s = .next { s with inputs := rest, history := s.history ++ [.regR off x] }) ∧
    (width = 32 → off = 0x00 → s.nextMove = some (.regWrite off width v, rest) →
      step s = exec (decodeCtrl v) { s with inputs := rest, history := s.history ++ [.regW off v] }) ∧
    (width = 32 → off ∈ [0x04, 0x08, 0x0C, 0x10] → s.nextMove = some (.regWrite off width v, rest) →
      step s = .next { s with inputs := rest, history := s.history ++ [.regW off v] }) ∧
    (width ≠ 32 ∨ off ∉ [0x00, 0x04, 0x08, 0x0C, 0x10] →
      (s.nextMove = some (.regRead off width, rest) → step s = .refused .accessOutsideInterface) ∧
      (s.nextMove = some (.regWrite off width v, rest) → step s = .refused .accessOutsideInterface))

/-- The five registers and what they show: CTRL, STATUS, ERR_INFO, ERR_CRC and FRAME_COUNT at their offsets, and no
register elsewhere (R37, R39, R40, R41, R55). -/
def Obligations.RegisterMap : Prop :=
  ∀ s : State,
    registerAt s 0x00 = some (if s.ctrlMode = .dispatch then 0x00000004#32 else 0x00000000#32) ∧
    registerAt s 0x04 = some (statusWord s) ∧
    registerAt s 0x08 = some s.errInfo ∧
    registerAt s 0x0C = some s.errCrc ∧
    registerAt s 0x10 = some s.frameCount ∧
    ∀ off, off ∉ [0x00, 0x04, 0x08, 0x0C, 0x10] → registerAt s off = none

/-- R38: STATUS stands at offset 0x04 and is read-only, its fields stand at their bits, BUSY is derived from the phase,
the reserved bits are 0, and after reset it reads 0x00001800. -/
def Obligations.StatusFields : Prop :=
  ∀ s : State,
    ((statusWord s).extractLsb' 0 3).toNat = (match s.phase with
      | .idle => 0 | .hdr => 1 | .pay => 2 | .pcrc => 3 | .emit => 4 | .done => 5 | .error => 6 | .aborted => 7) ∧
    ((statusWord s).getLsbD 3 = true ↔ s.mode = .dispatch) ∧
    (statusWord s).getLsbD 4 = s.endSeen ∧
    (statusWord s).getLsbD 5 = s.closed ∧
    ((statusWord s).getLsbD 6 = true ↔ s.phase = .hdr ∨ s.phase = .pay ∨ s.phase = .pcrc ∨ s.phase = .emit) ∧
    (statusWord s).getLsbD 7 = false ∧
    ((statusWord s).extractLsb' 8 3).toNat = (match s.errClass with
      | .none => 0 | .checksum => 1 | .unknownType => 2 | .malformed => 3 | .sink => 4 | .capacity => 5) ∧
    ((statusWord s).extractLsb' 11 2).toNat = (match s.errWhere with
      | .header => 0 | .payload => 1 | .payloadChecksum => 2 | .none => 3) ∧
    (∀ k, 13 ≤ k → (statusWord s).getLsbD k = false) ∧
    registerAt s 0x04 = some (statusWord s) ∧
    (∀ v rest, s.nextMove = some (.regWrite 0x04 32 v, rest) → ∃ t, step s = .next t ∧ statusWord t = statusWord s) ∧
    statusWord State.reset = 0x00001800#32

/-! ### Reset -/

/-- R44: the reset value of every field of the block, and what the registers then read. -/
def Obligations.ResetValues : Prop :=
  State.reset.phase = .idle ∧ State.reset.idx = 0#32 ∧ State.reset.mode = .decode ∧ State.reset.ctrlMode = .dispatch ∧
  State.reset.hbuf.toList = List.replicate 12 0x00#8 ∧ State.reset.version = 0#8 ∧ State.reset.typeRaw = 0#32 ∧
  State.reset.ptype = .unknown 0#32 ∧ State.reset.plen = 0#32 ∧ State.reset.hcrc = 0#32 ∧
  State.reset.crc = 0xFFFFFFFF#32 ∧ State.reset.pbuf = [] ∧ State.reset.pcbuf.toList = List.replicate 4 0x00#8 ∧
  State.reset.pcrc = 0#32 ∧ State.reset.pending = none ∧ State.reset.endSeen = false ∧ State.reset.closed = false ∧
  State.reset.errClass = .none ∧ State.reset.errWhere = .none ∧ State.reset.errInfo = 0#32 ∧
  State.reset.errCrc = 0#32 ∧ State.reset.frameCount = 0#32 ∧
  registerAt State.reset 0x00 = some 0x00000004#32 ∧ registerAt State.reset 0x04 = some 0x00001800#32 ∧
  registerAt State.reset 0x08 = some 0#32 ∧ registerAt State.reset 0x0C = some 0#32 ∧
  registerAt State.reset 0x10 = some 0#32

/-- R230, R231: reset may come at any time; it puts every field of the block at its reset value in one step, and it
issues no SrcClose and offers no event. After it, in IDLE, a step that is no START and no reset changes nothing of the
block but ctrl_mode. What reset leaves of the agents around the block is left free (log entry 6). -/
def Obligations.ResetRule : Prop :=
  (∀ s : State, resetComes s →
    ∃ t, step s = .next t ∧ t.history = s.history ∧
      t = { State.reset with
        history := t.history, params := s.params, stream := t.stream, streamEnds := t.streamEnds, inputs := t.inputs,
        withdrawn := t.withdrawn }) ∧
  (∀ s t : State, s.phase = .idle → step s = .next t → ¬ startComes s → ¬ resetComes s →
    t = { s with
      ctrlMode := t.ctrlMode, history := t.history, stream := t.stream, streamEnds := t.streamEnds,
      inputs := t.inputs, withdrawn := t.withdrawn })

/-! ### Invariants of every step -/

/-- The state after reset meets the invariant. -/
def Obligations.ResetMeetsInv : Prop := State.reset.Inv

/-- The invariant is kept by every step, from every state that meets it: the ranges of idx (R24), a pending event
exactly in EMIT (R31), the stream released exactly in the terminal phases (R33, R186), error detail exactly in ERROR
(R206, R236), the CRC register over the bytes received (R28), no payload read and no event offered before the checks
have passed (R124, R145, R238), and END_SEEN never set while the block reads (R160). -/
def Obligations.StepKeepsInv : Prop :=
  ∀ s t : State, s.Inv → step s = .next t → t.Inv

/-- From a state that meets the invariant no step faults, and a step is refused only where the spec has the model
refuse it: an access outside the register interface (R56), an answer to no request (R189), a stream connected while a
session owns SRC (R187). -/
def Obligations.StopsAreOutsideTheInterface : Prop :=
  ∀ s : State, s.Inv →
    (∀ f, step s ≠ .fault f) ∧
    (∀ r, step s = .refused r → ∃ i rest, s.nextMove = some (i, rest) ∧
      ((∃ off width, (width ≠ 32 ∨ off ∉ [0x00, 0x04, 0x08, 0x0C, 0x10]) ∧
          (i = .regRead off width ∨ ∃ v, i = .regWrite off width v)) ∨
        (i = .src ∧ s.phase.reads = false ∧ s.withdrawn ≠ some .srcRead) ∨
        (∃ a, i = .snk a ∧ s.phase ≠ .emit ∧ s.withdrawn ≠ some .snkPut) ∨
        (∃ bytes ends, i = .connect bytes ends ∧ s.phase.busy = true)))

/-- SrcClose is issued on the entry to a terminal phase and nowhere else, and never twice in a session: a step adds a
Close to the history exactly when it sets CLOSED, a session's CLOSED is set exactly when it enters a terminal phase, and
only START and reset clear it (R33, R186). -/
def Obligations.CloseIsIssuedOnce : Prop :=
  ∀ s t : State, s.Inv → step s = .next t →
    closeCount t.history = closeCount s.history + (if s.closed = false ∧ t.closed = true then 1 else 0) ∧
    (s.phase.terminal = false → t.phase.terminal = true → s.closed = false ∧ t.closed = true) ∧
    (s.closed = true → t.closed = false → startComes s ∨ resetComes s)

/-- Every stream byte is returned by exactly one SrcRead, in stream order, and only while the block reads: a step that
is not the platform's connecting a stream either leaves the stream and reads no byte, or takes its next byte and notes
it once (R51, R52, R158, R187). That a late answer to a withdrawn request takes no byte is the model's choice (log entry
5). -/
def Obligations.BytesAreReadOnceInOrder : Prop :=
  ∀ s t : State, step s = .next t → ¬ connectComes s →
    ∃ added, t.history = s.history ++ added ∧
      ((t.stream = s.stream ∧ ∀ b, Obs.read (.byte b) ∉ added) ∨
       (s.phase.reads = true ∧ ∃ b others, s.nextByte = some (b, t.stream) ∧ added = .read (.byte b) :: others ∧
         ∀ o ∈ others, ¬ isRead o))

/-- R46: the history is append-only. -/
def Obligations.HistoryIsAppendOnly : Prop :=
  ∀ s t : State, step s = .next t → s.history <+: t.history

/-- Outside a session nothing is transferred: in IDLE and in a terminal phase a step adds only host accesses to the
history (R68, R187, R207, R213). That a late answer to a withdrawn request leaves no entry is the model's choice (log
entry 5). -/
def Obligations.QuietOutsideASession : Prop :=
  ∀ s t : State, s.phase.busy = false → step s = .next t →
    ∃ added, t.history = s.history ++ added ∧ ∀ o ∈ added, isHostAccess o

/-- R212: the only ways out of ERROR, DONE and ABORTED are CMD.START and reset; both clear the error fields, and START
begins at header byte 0. Every other step keeps the phase and the error fields. -/
def Obligations.OnlyStartOrResetLeavesTerminal : Prop :=
  ∀ s t : State, s.phase.terminal = true → step s = .next t →
    (startComes s ∧ t.phase = .hdr ∧ t.idx = 0#32 ∧
      t.errClass = .none ∧ t.errWhere = .none ∧ t.errInfo = 0#32 ∧ t.errCrc = 0#32) ∨
    (resetComes s ∧ t.phase = .idle ∧
      t.errClass = .none ∧ t.errWhere = .none ∧ t.errInfo = 0#32 ∧ t.errCrc = 0#32) ∨
    (¬ startComes s ∧ ¬ resetComes s ∧ t.phase = s.phase ∧
      t.errClass = s.errClass ∧ t.errWhere = s.errWhere ∧ t.errInfo = s.errInfo ∧ t.errCrc = s.errCrc)

/-- R237, R69: the running mode changes only at a START outside a session, which latches the MODE bit written with it,
and at reset; no other step changes it, whatever is written to CTRL. -/
def Obligations.ModeIsLatchedAtStart : Prop :=
  ∀ s t : State, step s = .next t → t.mode ≠ s.mode →
    resetComes s ∨ (s.phase.busy = false ∧ startComes s ∧ t.mode = t.ctrlMode ∧ t.phase = .hdr)

/-- After an END frame has completed, no step but an accepted START and reset reads a byte, and no further event is
offered: what is pending is the END frame's own event or nothing (R160, which the spec marks as derived). -/
def Obligations.NothingFollowsEnd : Prop :=
  ∀ s t : State, s.Inv → s.endSeen = true → step s = .next t → (startComes s → s.phase.busy = true) → ¬ resetComes s →
    t.endSeen = true ∧ t.phase.reads = false ∧ (t.pending = s.pending ∨ t.pending = none) ∧
    ∃ added, t.history = s.history ++ added ∧ ∀ o ∈ added, ¬ isRead o

/-- Errors are precise: a step that enters ERROR leaves no event pending, counts the failing frame only for
UNKNOWN_TYPE, and adds no answered event except the one SNK rejected (R208). -/
def Obligations.ErrorsArePrecise : Prop :=
  ∀ s t : State, s.Inv → s.phase ≠ .error → step s = .next t → t.phase = .error →
    t.pending = none ∧
    (t.frameCount = s.frameCount ∨ (t.errClass = .unknownType ∧ t.frameCount = s.frameCount + 1#32)) ∧
    ∃ added, t.history = s.history ++ added ∧
      ∀ ev a, Obs.put ev a ∈ added → a = .err ∧ t.errClass = .sink ∧ s.pending = some ev

/-! ### Isolation -/

/-- P_BASE is a platform choice no rule depends on: the same state with another base takes the same step (R14, R55). -/
def Obligations.BaseChangesNothing : Prop :=
  ∀ (s : State) (base : Nat),
    step { s with params := { s.params with base := base } } =
      match step s with
      | .next t => .next { t with params := { t.params with base := base } }
      | .fault f => .fault f
      | .refused r => .refused r

/-- R43, which the spec marks as derived: no rule reads a field before it has been written, from reset and within a
frame. Two states that agree on
every field but per-frame fields not yet written in the current phase take the same step: the same stop, or next states
that agree so again, with the same history, the same registers and the same pending event. -/
def Obligations.StaleFieldsAreNeverRead : Prop :=
  ∀ s t : State, s.SameWritten t →
    sameOutcome (step s) (step t) ∧ s.history = t.history ∧ s.pending = t.pending ∧
    ∀ off, registerAt s off = registerAt t off

/-! ### Whole frames -/

/-- Frame round trip: what R87 puts together, the block takes apart. When the stream gives the bytes of a well-formed
frame FRAME(v, T, body) and the next moves are SRC's, one for each of its 12 or 16 + L bytes, the run of those moves from
header byte 0 is exec of the operation its header word decodes to, in the state u: u holds the frame's header fields,
body and checksums, exactly the frame's bytes are consumed and noted, in order, and no other field of s is changed (R66,
R70, R73, R74, R87, R162). Without a body the payload fields keep what they held. -/
def Obligations.WholeFrameIsReadAndRun : Prop :=
  ∀ (s : State) (v : Byte) (c : Code) (body : List Byte) (after : Supply Byte) (more : Supply Input),
    s.phase = .hdr → s.idx = 0#32 → s.crc = crcInitial →
    body.length ≤ s.params.payloadMax.toNat →
    Supply.Gives Config.freeByte (frameBytes v c body) s.stream after →
    Supply.Gives Config.freeMove (List.replicate (if body = [] then 12 else 16 + body.length) .src) s.inputs more →
    ∃ u : State,
      Host.Core.run core (if body = [] then 12 else 16 + body.length) s = exec (decodeW0 (encodeW0 v c)) u ∧
      u.hbuf.toList = headerBytes v c (BitVec.ofNat 32 body.length) ∧
      u.version = v ∧ u.typeRaw = c.setWidth 32 ∧ u.ptype = resolve (c.setWidth 32) ∧
      u.plen = BitVec.ofNat 32 body.length ∧ u.hcrc = crc32 (headerStart v c (BitVec.ofNat 32 body.length)) ∧
      (body ≠ [] → u.pbuf = body ∧ u.pcbuf.toList = be32Bytes (crc32 body) ∧ u.pcrc = crc32 body) ∧
      (body = [] → u.pbuf = s.pbuf ∧ u.pcbuf = s.pcbuf ∧ u.pcrc = s.pcrc) ∧
      u.stream = after ∧ u.inputs = more ∧
      u.history = s.history ++ (frameBytes v c body).map (fun b => Obs.read (.byte b)) ∧
      u = { s with
        phase := u.phase, idx := u.idx, hbuf := u.hbuf, version := u.version, typeRaw := u.typeRaw,
        ptype := u.ptype, plen := u.plen, hcrc := u.hcrc, crc := u.crc, pbuf := u.pbuf, pcbuf := u.pcbuf,
        pcrc := u.pcrc, stream := u.stream, inputs := u.inputs, history := u.history }

/-- R221's hang, by the example it gives: in DISPATCH, one valid CONTINUATION frame repeated for ever gives a run that the
block never ends. From header byte 0, with a stream that repeats the frame's bytes and with SRC answering every request
and no other agent moving, every number k of steps leads to a next state in which the block still reads, so it is in no
terminal phase and is not stuck: it has taken one byte in each step, and counted one frame for each whole one read (R155,
R173, R234). Other frames and DECODE are not spoken of here. That the endless stream and moves are named by what they
repeat is the model's choice (log entry 18). -/
def Obligations.EndlessStreamRunsForever : Prop :=
  ∀ (s : State) (v first : Byte) (more body : List Byte),
    s.phase = .hdr → s.idx = 0#32 → s.crc = crcInitial → s.mode = .dispatch →
    body.length ≤ s.params.payloadMax.toNat →
    (body = [] ∨ 8 ≤ body.length ∨ s.params.shortOffset = .truncate) →
    first :: more = frameBytes v 0x800004#24 body →
    s.stream = ⟨[], .repeats first more⟩ → s.inputs = ⟨[], .repeats .src []⟩ →
    ∀ k : Nat, ∃ t : State, Host.Core.run core k s = .next t ∧
      t.phase.reads = true ∧ t.pending = s.pending ∧ t.history.length = s.history.length + k ∧
      t.frameCount = s.frameCount + BitVec.ofNat 32 (k / (first :: more).length)

/-- R109, which the spec marks as derived, of the CRC-32 variant of R100, which it marks as general knowledge (log entry
10): single-byte corruption is always detected. If the header bytes received are those of a header with a right
checksum but for one byte, the header check fails with where HEADER; if the body and checksum bytes received are those
of a right payload section but for one byte of the body or of the checksum, the payload check fails with where
PAYLOAD. -/
def Obligations.SingleByteCorruptionIsDetected : Prop :=
  (∀ (s : State) (b : Byte) (bytes : Supply Byte) (rest : Supply Input) (h : Vector Byte 12) (k : Fin 12) (x : Byte),
    s.Inv → s.phase = .hdr → s.idx = 11#32 → s.byteComes b bytes rest →
    headerChecksum h = crc32 (h.toList.take 8) → x ≠ h[k] → s.hbuf.set 11 b = h.set k x →
    ∃ t, step s = .next t ∧ t.phase = .error ∧ t.errClass = .checksum ∧ t.errWhere = .header) ∧
  (∀ (s : State) (b : Byte) (bytes : Supply Byte) (rest : Supply Input) (body : List Byte) (declared : Vector Byte 4),
    s.Inv → s.phase = .pcrc → s.idx = 3#32 → s.byteComes b bytes rest →
    payloadChecksum declared = crc32 body →
    ((∃ (k : Fin body.length) (x : Byte), x ≠ body[k] ∧ s.pbuf = body.set k x ∧ s.pcbuf.set 3 b = declared) ∨
      (∃ (k : Fin 4) (x : Byte), x ≠ declared[k] ∧ s.pbuf = body ∧ s.pcbuf.set 3 b = declared.set k x)) →
    ∃ t, step s = .next t ∧ t.phase = .error ∧ t.errClass = .checksum ∧ t.errWhere = .payload)
end

