-- ==== Sys2Proof/Laws/Codec.lean ====
section
/-! SUPPORT. Byte order, header words and CTRL values: what taking apart and putting together gives. -/

namespace Sys2Proof

open Sys2Proof.Machine

/-! ### Words as numbers -/

/-- Putting two fields together, as a number: the upper one scaled by the width of the lower. -/
theorem append_toNat {m n : Nat} (x : BitVec m) (y : BitVec n) : (x ++ y).toNat = x.toNat * 2 ^ n + y.toNat := by
  rw [BitVec.toNat_append, ← Nat.shiftLeft_add_eq_or_of_lt y.isLt, Nat.shiftLeft_eq]

/-- be32 is the number R11 gives. -/
theorem be32_toNat (b0 b1 b2 b3 : Byte) :
    (be32 b0 b1 b2 b3).toNat = b0.toNat * 2 ^ 24 + b1.toNat * 2 ^ 16 + b2.toNat * 2 ^ 8 + b3.toNat := by
  have h : (be32 b0 b1 b2 b3).toNat = (b0 ++ b1 ++ b2 ++ b3).toNat := rfl
  rw [h, append_toNat, append_toNat, append_toNat]; omega

theorem encodeW0_toNat (v : Byte) (t : Code) : (encodeW0 v t).toNat = v.toNat * 2 ^ 24 + t.toNat := by
  have h : (encodeW0 v t).toNat = (v ++ t).toNat := rfl
  rw [h, append_toNat]

theorem encodeCtrl_toNat (r : BitVec 29) (m : Mode) (a st : Bool) :
    (encodeCtrl r m a st).toNat = r.toNat * 8 + m.bit.toNat * 4 + a.toNat * 2 + st.toNat := by
  have h : (encodeCtrl r m a st).toNat =
      (r ++ BitVec.ofBool m.bit ++ BitVec.ofBool a ++ BitVec.ofBool st).toNat := rfl
  rw [h, append_toNat, append_toNat, append_toNat]
  simp only [BitVec.toNat_ofBool]; omega

theorem extract_toNat (w : Word) (lo n : Nat) : (w.extractLsb' lo n).toNat = w.toNat / 2 ^ lo % 2 ^ n := by
  simp [Nat.shiftRight_eq_div_pow]

theorem typeMask_toNat (w : Word) : (w &&& 0x00FFFFFF#32).toNat = w.toNat % 2 ^ 24 := by
  have : (0x00FFFFFF#32 : Word).toNat = 2 ^ 24 - 1 := rfl
  rw [BitVec.toNat_and, this, Nat.and_two_pow_sub_one_eq_mod]

theorem bit_toNat (w : Word) (i : Nat) : w.getLsbD i = decide (w.toNat / 2 ^ i % 2 = 1) := by
  rw [BitVec.getLsbD, Nat.testBit_eq_decide_div_mod_eq]

/-! ### Bytes of a word -/

@[simp] theorem be32_of_parts (x : Word) :
    be32 (x.extractLsb' 24 8) (x.extractLsb' 16 8) (x.extractLsb' 8 8) (x.extractLsb' 0 8) = x := by
  apply BitVec.eq_of_toNat_eq
  simp only [be32_toNat, extract_toNat]; omega

/-- The bytes of a word put together by be32, back as bytes. -/
@[simp] theorem be32Bytes_be32 (a b c d : Byte) : be32Bytes (be32 a b c d) = [a, b, c, d] := by
  simp only [be32Bytes, List.cons.injEq, and_true]
  refine ⟨?_, ?_, ?_, ?_⟩ <;> apply BitVec.eq_of_toNat_eq <;> simp only [be32_toNat, extract_toNat] <;> omega

@[simp] theorem be32Bytes_length (x : Word) : (be32Bytes x).length = 4 := rfl

/-! ### Header word 0 -/

@[simp] theorem encodeW0_version (v : Byte) (t : Code) : (encodeW0 v t).extractLsb' 24 8 = v := by
  apply BitVec.eq_of_toNat_eq
  simp only [encodeW0_toNat, extract_toNat]; omega

@[simp] theorem encodeW0_type (v : Byte) (t : Code) : (encodeW0 v t).extractLsb' 0 24 = t := by
  apply BitVec.eq_of_toNat_eq
  simp only [encodeW0_toNat, extract_toNat]; omega

@[simp] theorem encodeW0_masked (v : Byte) (t : Code) : encodeW0 v t &&& 0x00FFFFFF#32 = t.setWidth 32 := by
  apply BitVec.eq_of_toNat_eq
  simp only [typeMask_toNat, encodeW0_toNat, BitVec.toNat_setWidth]; omega

/-- Every word is the header word 0 of its version and its type code. -/
theorem encodeW0_of_parts (w : Word) : encodeW0 (w.extractLsb' 24 8) (w.extractLsb' 0 24) = w := by
  apply BitVec.eq_of_toNat_eq
  simp only [encodeW0_toNat, extract_toNat]; omega

/-- Header word 0 of four bytes, from its first byte and the padded type field (R72, R80). -/
theorem be32_eq_encodeW0 (a b c d : Byte) : be32 a b c d = encodeW0 a ((be32 0x00#8 b c d).setWidth 24) := by
  apply BitVec.eq_of_toNat_eq
  simp only [be32_toNat, encodeW0_toNat, BitVec.toNat_setWidth, BitVec.toNat_ofNat]; omega

/-- The type field of any header is a 24-bit value (R22). -/
theorem headerType_lt (h : Vector Byte 12) : (headerType h).toNat < 2 ^ 24 := by
  simp only [headerType, be32_toNat, BitVec.toNat_ofNat]; omega

/-- The frame operation of a state whose latched header comes from hbuf is the decoder's reading of hbuf's word 0. -/
theorem frameInstr_of_latched (s : State) (hv : s.version = s.hbuf[0]) (ht : s.typeRaw = headerType s.hbuf) :
    s.frameInstr = decodeW0 (headerW0 s.hbuf) := by
  rw [State.frameInstr, State.latchedW0, hv, ht, headerW0, headerType, be32_eq_encodeW0 s.hbuf[0]]

/-! ### CTRL values -/

@[simp] theorem modeOfBit_bit (m : Mode) : Mode.ofBit m.bit = m := by cases m <;> rfl

@[simp] theorem bit_modeOfBit (b : Bool) : (Mode.ofBit b).bit = b := by cases b <;> rfl

theorem encodeCtrl_getLsbD (r : BitVec 29) (m : Mode) (a st : Bool) :
    (encodeCtrl r m a st).getLsbD 0 = st ∧ (encodeCtrl r m a st).getLsbD 1 = a ∧
      (encodeCtrl r m a st).getLsbD 2 = m.bit := by
  simp only [bit_toNat, encodeCtrl_toNat]
  cases m <;> cases a <;> cases st <;> simp [Mode.bit] <;> omega

@[simp] theorem encodeCtrl_start (r : BitVec 29) (m : Mode) (a st : Bool) : (encodeCtrl r m a st)[0] = st :=
  (encodeCtrl_getLsbD r m a st).1

@[simp] theorem encodeCtrl_abort (r : BitVec 29) (m : Mode) (a st : Bool) : (encodeCtrl r m a st)[1] = a :=
  (encodeCtrl_getLsbD r m a st).2.1

@[simp] theorem encodeCtrl_mode (r : BitVec 29) (m : Mode) (a st : Bool) : (encodeCtrl r m a st)[2] = m.bit :=
  (encodeCtrl_getLsbD r m a st).2.2

@[simp] theorem encodeCtrl_reserved (r : BitVec 29) (m : Mode) (a st : Bool) :
    (encodeCtrl r m a st).extractLsb' 3 29 = r := by
  apply BitVec.eq_of_toNat_eq
  rw [extract_toNat, encodeCtrl_toNat]
  cases m <;> cases a <;> cases st <;> simp [Mode.bit] <;> omega

/-- Every word is the CTRL value of its fields. -/
theorem encodeCtrl_of_parts (v : Word) :
    encodeCtrl (v.extractLsb' 3 29) (Mode.ofBit (v.getLsbD 2)) (v.getLsbD 1) (v.getLsbD 0) = v := by
  apply BitVec.eq_of_toNat_eq
  rw [encodeCtrl_toNat, extract_toNat, bit_modeOfBit, bit_toNat, bit_toNat, bit_toNat]
  have h (p : Prop) [Decidable p] : (decide p).toNat = if p then 1 else 0 := by by_cases hp : p <;> simp [hp]
  simp only [h]
  split_ifs <;> omega

end Sys2Proof
end

