-- ==== Sys2Proof/Laws/State.lean ====
section
/-! SUPPORT. What each shared update writes and leaves, one lemma per field, so that no proof unfolds a record update. -/

namespace Sys2Proof.Machine

/-! ### State.observe -/

section
variable (s : State) (o : Obs)

@[simp] theorem observe_phase : (s.observe o).phase = s.phase := rfl
@[simp] theorem observe_idx : (s.observe o).idx = s.idx := rfl
@[simp] theorem observe_mode : (s.observe o).mode = s.mode := rfl
@[simp] theorem observe_ctrlMode : (s.observe o).ctrlMode = s.ctrlMode := rfl
@[simp] theorem observe_hbuf : (s.observe o).hbuf = s.hbuf := rfl
@[simp] theorem observe_version : (s.observe o).version = s.version := rfl
@[simp] theorem observe_typeRaw : (s.observe o).typeRaw = s.typeRaw := rfl
@[simp] theorem observe_ptype : (s.observe o).ptype = s.ptype := rfl
@[simp] theorem observe_plen : (s.observe o).plen = s.plen := rfl
@[simp] theorem observe_hcrc : (s.observe o).hcrc = s.hcrc := rfl
@[simp] theorem observe_crc : (s.observe o).crc = s.crc := rfl
@[simp] theorem observe_pbuf : (s.observe o).pbuf = s.pbuf := rfl
@[simp] theorem observe_pcbuf : (s.observe o).pcbuf = s.pcbuf := rfl
@[simp] theorem observe_pcrc : (s.observe o).pcrc = s.pcrc := rfl
@[simp] theorem observe_pending : (s.observe o).pending = s.pending := rfl
@[simp] theorem observe_endSeen : (s.observe o).endSeen = s.endSeen := rfl
@[simp] theorem observe_closed : (s.observe o).closed = s.closed := rfl
@[simp] theorem observe_errClass : (s.observe o).errClass = s.errClass := rfl
@[simp] theorem observe_errWhere : (s.observe o).errWhere = s.errWhere := rfl
@[simp] theorem observe_errInfo : (s.observe o).errInfo = s.errInfo := rfl
@[simp] theorem observe_errCrc : (s.observe o).errCrc = s.errCrc := rfl
@[simp] theorem observe_frameCount : (s.observe o).frameCount = s.frameCount := rfl
@[simp] theorem observe_history : (s.observe o).history = s.history ++ [o] := rfl
@[simp] theorem observe_params : (s.observe o).params = s.params := rfl
@[simp] theorem observe_stream : (s.observe o).stream = s.stream := rfl
@[simp] theorem observe_streamEnds : (s.observe o).streamEnds = s.streamEnds := rfl
@[simp] theorem observe_inputs : (s.observe o).inputs = s.inputs := rfl
@[simp] theorem observe_withdrawn : (s.observe o).withdrawn = s.withdrawn := rfl

end

/-! ### closeStream -/

section
variable (s : State)

@[simp] theorem closeStream_phase : (closeStream s).phase = s.phase := rfl
@[simp] theorem closeStream_idx : (closeStream s).idx = s.idx := rfl
@[simp] theorem closeStream_mode : (closeStream s).mode = s.mode := rfl
@[simp] theorem closeStream_ctrlMode : (closeStream s).ctrlMode = s.ctrlMode := rfl
@[simp] theorem closeStream_hbuf : (closeStream s).hbuf = s.hbuf := rfl
@[simp] theorem closeStream_version : (closeStream s).version = s.version := rfl
@[simp] theorem closeStream_typeRaw : (closeStream s).typeRaw = s.typeRaw := rfl
@[simp] theorem closeStream_ptype : (closeStream s).ptype = s.ptype := rfl
@[simp] theorem closeStream_plen : (closeStream s).plen = s.plen := rfl
@[simp] theorem closeStream_hcrc : (closeStream s).hcrc = s.hcrc := rfl
@[simp] theorem closeStream_crc : (closeStream s).crc = s.crc := rfl
@[simp] theorem closeStream_pbuf : (closeStream s).pbuf = s.pbuf := rfl
@[simp] theorem closeStream_pcbuf : (closeStream s).pcbuf = s.pcbuf := rfl
@[simp] theorem closeStream_pcrc : (closeStream s).pcrc = s.pcrc := rfl
@[simp] theorem closeStream_pending : (closeStream s).pending = s.pending := rfl
@[simp] theorem closeStream_endSeen : (closeStream s).endSeen = s.endSeen := rfl
@[simp] theorem closeStream_closed : (closeStream s).closed = true := rfl
@[simp] theorem closeStream_errClass : (closeStream s).errClass = s.errClass := rfl
@[simp] theorem closeStream_errWhere : (closeStream s).errWhere = s.errWhere := rfl
@[simp] theorem closeStream_errInfo : (closeStream s).errInfo = s.errInfo := rfl
@[simp] theorem closeStream_errCrc : (closeStream s).errCrc = s.errCrc := rfl
@[simp] theorem closeStream_frameCount : (closeStream s).frameCount = s.frameCount := rfl
@[simp] theorem closeStream_history : (closeStream s).history = s.historyClosed := rfl
@[simp] theorem closeStream_params : (closeStream s).params = s.params := rfl
@[simp] theorem closeStream_stream : (closeStream s).stream = s.stream := rfl
@[simp] theorem closeStream_streamEnds : (closeStream s).streamEnds = s.streamEnds := rfl
@[simp] theorem closeStream_inputs : (closeStream s).inputs = s.inputs := rfl
@[simp] theorem closeStream_withdrawn : (closeStream s).withdrawn = s.withdrawn := rfl

end

/-! ### raise -/

section
variable (cls : ErrClass) (wh : ErrWhere) (info crc : Word) (s : State)

@[simp] theorem raise_phase : (raise cls wh info crc s).phase = .error := rfl
@[simp] theorem raise_idx : (raise cls wh info crc s).idx = 0#32 := rfl
@[simp] theorem raise_mode : (raise cls wh info crc s).mode = s.mode := rfl
@[simp] theorem raise_ctrlMode : (raise cls wh info crc s).ctrlMode = s.ctrlMode := rfl
@[simp] theorem raise_hbuf : (raise cls wh info crc s).hbuf = s.hbuf := rfl
@[simp] theorem raise_version : (raise cls wh info crc s).version = s.version := rfl
@[simp] theorem raise_typeRaw : (raise cls wh info crc s).typeRaw = s.typeRaw := rfl
@[simp] theorem raise_ptype : (raise cls wh info crc s).ptype = s.ptype := rfl
@[simp] theorem raise_plen : (raise cls wh info crc s).plen = s.plen := rfl
@[simp] theorem raise_hcrc : (raise cls wh info crc s).hcrc = s.hcrc := rfl
@[simp] theorem raise_crc : (raise cls wh info crc s).crc = s.crc := rfl
@[simp] theorem raise_pbuf : (raise cls wh info crc s).pbuf = s.pbuf := rfl
@[simp] theorem raise_pcbuf : (raise cls wh info crc s).pcbuf = s.pcbuf := rfl
@[simp] theorem raise_pcrc : (raise cls wh info crc s).pcrc = s.pcrc := rfl
@[simp] theorem raise_pending : (raise cls wh info crc s).pending = none := rfl
@[simp] theorem raise_endSeen : (raise cls wh info crc s).endSeen = s.endSeen := rfl
@[simp] theorem raise_closed : (raise cls wh info crc s).closed = true := rfl
@[simp] theorem raise_errClass : (raise cls wh info crc s).errClass = cls := rfl
@[simp] theorem raise_errWhere : (raise cls wh info crc s).errWhere = wh := rfl
@[simp] theorem raise_errInfo : (raise cls wh info crc s).errInfo = info := rfl
@[simp] theorem raise_errCrc : (raise cls wh info crc s).errCrc = crc := rfl
@[simp] theorem raise_frameCount : (raise cls wh info crc s).frameCount = s.frameCount := rfl
@[simp] theorem raise_history : (raise cls wh info crc s).history = s.historyClosed := rfl
@[simp] theorem raise_params : (raise cls wh info crc s).params = s.params := rfl
@[simp] theorem raise_stream : (raise cls wh info crc s).stream = s.stream := rfl
@[simp] theorem raise_streamEnds : (raise cls wh info crc s).streamEnds = s.streamEnds := rfl
@[simp] theorem raise_inputs : (raise cls wh info crc s).inputs = s.inputs := rfl
@[simp] theorem raise_withdrawn : (raise cls wh info crc s).withdrawn = s.withdrawn := rfl

end

/-! ### finishOk -/

section
variable (s : State)

@[simp] theorem finishOk_phase : (finishOk s).phase = .done := rfl
@[simp] theorem finishOk_idx : (finishOk s).idx = 0#32 := rfl
@[simp] theorem finishOk_mode : (finishOk s).mode = s.mode := rfl
@[simp] theorem finishOk_ctrlMode : (finishOk s).ctrlMode = s.ctrlMode := rfl
@[simp] theorem finishOk_hbuf : (finishOk s).hbuf = s.hbuf := rfl
@[simp] theorem finishOk_version : (finishOk s).version = s.version := rfl
@[simp] theorem finishOk_typeRaw : (finishOk s).typeRaw = s.typeRaw := rfl
@[simp] theorem finishOk_ptype : (finishOk s).ptype = s.ptype := rfl
@[simp] theorem finishOk_plen : (finishOk s).plen = s.plen := rfl
@[simp] theorem finishOk_hcrc : (finishOk s).hcrc = s.hcrc := rfl
@[simp] theorem finishOk_crc : (finishOk s).crc = s.crc := rfl
@[simp] theorem finishOk_pbuf : (finishOk s).pbuf = s.pbuf := rfl
@[simp] theorem finishOk_pcbuf : (finishOk s).pcbuf = s.pcbuf := rfl
@[simp] theorem finishOk_pcrc : (finishOk s).pcrc = s.pcrc := rfl
@[simp] theorem finishOk_pending : (finishOk s).pending = s.pending := rfl
@[simp] theorem finishOk_endSeen : (finishOk s).endSeen = s.endSeen := rfl
@[simp] theorem finishOk_closed : (finishOk s).closed = true := rfl
@[simp] theorem finishOk_errClass : (finishOk s).errClass = s.errClass := rfl
@[simp] theorem finishOk_errWhere : (finishOk s).errWhere = s.errWhere := rfl
@[simp] theorem finishOk_errInfo : (finishOk s).errInfo = s.errInfo := rfl
@[simp] theorem finishOk_errCrc : (finishOk s).errCrc = s.errCrc := rfl
@[simp] theorem finishOk_frameCount : (finishOk s).frameCount = s.frameCount := rfl
@[simp] theorem finishOk_history : (finishOk s).history = s.historyClosed := rfl
@[simp] theorem finishOk_params : (finishOk s).params = s.params := rfl
@[simp] theorem finishOk_stream : (finishOk s).stream = s.stream := rfl
@[simp] theorem finishOk_streamEnds : (finishOk s).streamEnds = s.streamEnds := rfl
@[simp] theorem finishOk_inputs : (finishOk s).inputs = s.inputs := rfl
@[simp] theorem finishOk_withdrawn : (finishOk s).withdrawn = s.withdrawn := rfl

end

/-! ### crcInit -/

section
variable (s : State)

@[simp] theorem crcInit_phase : (crcInit s).phase = s.phase := rfl
@[simp] theorem crcInit_idx : (crcInit s).idx = s.idx := rfl
@[simp] theorem crcInit_mode : (crcInit s).mode = s.mode := rfl
@[simp] theorem crcInit_ctrlMode : (crcInit s).ctrlMode = s.ctrlMode := rfl
@[simp] theorem crcInit_hbuf : (crcInit s).hbuf = s.hbuf := rfl
@[simp] theorem crcInit_version : (crcInit s).version = s.version := rfl
@[simp] theorem crcInit_typeRaw : (crcInit s).typeRaw = s.typeRaw := rfl
@[simp] theorem crcInit_ptype : (crcInit s).ptype = s.ptype := rfl
@[simp] theorem crcInit_plen : (crcInit s).plen = s.plen := rfl
@[simp] theorem crcInit_hcrc : (crcInit s).hcrc = s.hcrc := rfl
@[simp] theorem crcInit_crc : (crcInit s).crc = crcInitial := rfl
@[simp] theorem crcInit_pbuf : (crcInit s).pbuf = s.pbuf := rfl
@[simp] theorem crcInit_pcbuf : (crcInit s).pcbuf = s.pcbuf := rfl
@[simp] theorem crcInit_pcrc : (crcInit s).pcrc = s.pcrc := rfl
@[simp] theorem crcInit_pending : (crcInit s).pending = s.pending := rfl
@[simp] theorem crcInit_endSeen : (crcInit s).endSeen = s.endSeen := rfl
@[simp] theorem crcInit_closed : (crcInit s).closed = s.closed := rfl
@[simp] theorem crcInit_errClass : (crcInit s).errClass = s.errClass := rfl
@[simp] theorem crcInit_errWhere : (crcInit s).errWhere = s.errWhere := rfl
@[simp] theorem crcInit_errInfo : (crcInit s).errInfo = s.errInfo := rfl
@[simp] theorem crcInit_errCrc : (crcInit s).errCrc = s.errCrc := rfl
@[simp] theorem crcInit_frameCount : (crcInit s).frameCount = s.frameCount := rfl
@[simp] theorem crcInit_history : (crcInit s).history = s.history := rfl
@[simp] theorem crcInit_params : (crcInit s).params = s.params := rfl
@[simp] theorem crcInit_stream : (crcInit s).stream = s.stream := rfl
@[simp] theorem crcInit_streamEnds : (crcInit s).streamEnds = s.streamEnds := rfl
@[simp] theorem crcInit_inputs : (crcInit s).inputs = s.inputs := rfl
@[simp] theorem crcInit_withdrawn : (crcInit s).withdrawn = s.withdrawn := rfl

end

/-! ### crcUpdate -/

section
variable (b : Byte) (s : State)

@[simp] theorem crcUpdate_phase : (crcUpdate b s).phase = s.phase := rfl
@[simp] theorem crcUpdate_idx : (crcUpdate b s).idx = s.idx := rfl
@[simp] theorem crcUpdate_mode : (crcUpdate b s).mode = s.mode := rfl
@[simp] theorem crcUpdate_ctrlMode : (crcUpdate b s).ctrlMode = s.ctrlMode := rfl
@[simp] theorem crcUpdate_hbuf : (crcUpdate b s).hbuf = s.hbuf := rfl
@[simp] theorem crcUpdate_version : (crcUpdate b s).version = s.version := rfl
@[simp] theorem crcUpdate_typeRaw : (crcUpdate b s).typeRaw = s.typeRaw := rfl
@[simp] theorem crcUpdate_ptype : (crcUpdate b s).ptype = s.ptype := rfl
@[simp] theorem crcUpdate_plen : (crcUpdate b s).plen = s.plen := rfl
@[simp] theorem crcUpdate_hcrc : (crcUpdate b s).hcrc = s.hcrc := rfl
@[simp] theorem crcUpdate_crc : (crcUpdate b s).crc = crcStep s.crc b := rfl
@[simp] theorem crcUpdate_pbuf : (crcUpdate b s).pbuf = s.pbuf := rfl
@[simp] theorem crcUpdate_pcbuf : (crcUpdate b s).pcbuf = s.pcbuf := rfl
@[simp] theorem crcUpdate_pcrc : (crcUpdate b s).pcrc = s.pcrc := rfl
@[simp] theorem crcUpdate_pending : (crcUpdate b s).pending = s.pending := rfl
@[simp] theorem crcUpdate_endSeen : (crcUpdate b s).endSeen = s.endSeen := rfl
@[simp] theorem crcUpdate_closed : (crcUpdate b s).closed = s.closed := rfl
@[simp] theorem crcUpdate_errClass : (crcUpdate b s).errClass = s.errClass := rfl
@[simp] theorem crcUpdate_errWhere : (crcUpdate b s).errWhere = s.errWhere := rfl
@[simp] theorem crcUpdate_errInfo : (crcUpdate b s).errInfo = s.errInfo := rfl
@[simp] theorem crcUpdate_errCrc : (crcUpdate b s).errCrc = s.errCrc := rfl
@[simp] theorem crcUpdate_frameCount : (crcUpdate b s).frameCount = s.frameCount := rfl
@[simp] theorem crcUpdate_history : (crcUpdate b s).history = s.history := rfl
@[simp] theorem crcUpdate_params : (crcUpdate b s).params = s.params := rfl
@[simp] theorem crcUpdate_stream : (crcUpdate b s).stream = s.stream := rfl
@[simp] theorem crcUpdate_streamEnds : (crcUpdate b s).streamEnds = s.streamEnds := rfl
@[simp] theorem crcUpdate_inputs : (crcUpdate b s).inputs = s.inputs := rfl
@[simp] theorem crcUpdate_withdrawn : (crcUpdate b s).withdrawn = s.withdrawn := rfl

end

/-! ### nextFrame -/

section
variable (s : State)

@[simp] theorem nextFrame_phase : (nextFrame s).phase = .hdr := rfl
@[simp] theorem nextFrame_idx : (nextFrame s).idx = 0#32 := rfl
@[simp] theorem nextFrame_mode : (nextFrame s).mode = s.mode := rfl
@[simp] theorem nextFrame_ctrlMode : (nextFrame s).ctrlMode = s.ctrlMode := rfl
@[simp] theorem nextFrame_hbuf : (nextFrame s).hbuf = s.hbuf := rfl
@[simp] theorem nextFrame_version : (nextFrame s).version = s.version := rfl
@[simp] theorem nextFrame_typeRaw : (nextFrame s).typeRaw = s.typeRaw := rfl
@[simp] theorem nextFrame_ptype : (nextFrame s).ptype = s.ptype := rfl
@[simp] theorem nextFrame_plen : (nextFrame s).plen = s.plen := rfl
@[simp] theorem nextFrame_hcrc : (nextFrame s).hcrc = s.hcrc := rfl
@[simp] theorem nextFrame_crc : (nextFrame s).crc = crcInitial := rfl
@[simp] theorem nextFrame_pbuf : (nextFrame s).pbuf = s.pbuf := rfl
@[simp] theorem nextFrame_pcbuf : (nextFrame s).pcbuf = s.pcbuf := rfl
@[simp] theorem nextFrame_pcrc : (nextFrame s).pcrc = s.pcrc := rfl
@[simp] theorem nextFrame_pending : (nextFrame s).pending = s.pending := rfl
@[simp] theorem nextFrame_endSeen : (nextFrame s).endSeen = s.endSeen := rfl
@[simp] theorem nextFrame_closed : (nextFrame s).closed = s.closed := rfl
@[simp] theorem nextFrame_errClass : (nextFrame s).errClass = s.errClass := rfl
@[simp] theorem nextFrame_errWhere : (nextFrame s).errWhere = s.errWhere := rfl
@[simp] theorem nextFrame_errInfo : (nextFrame s).errInfo = s.errInfo := rfl
@[simp] theorem nextFrame_errCrc : (nextFrame s).errCrc = s.errCrc := rfl
@[simp] theorem nextFrame_frameCount : (nextFrame s).frameCount = s.frameCount := rfl
@[simp] theorem nextFrame_history : (nextFrame s).history = s.history := rfl
@[simp] theorem nextFrame_params : (nextFrame s).params = s.params := rfl
@[simp] theorem nextFrame_stream : (nextFrame s).stream = s.stream := rfl
@[simp] theorem nextFrame_streamEnds : (nextFrame s).streamEnds = s.streamEnds := rfl
@[simp] theorem nextFrame_inputs : (nextFrame s).inputs = s.inputs := rfl
@[simp] theorem nextFrame_withdrawn : (nextFrame s).withdrawn = s.withdrawn := rfl

end

/-! ### offer -/

section
variable (ev : Event) (s : State)

@[simp] theorem offer_phase : (offer ev s).phase = .emit := rfl
@[simp] theorem offer_idx : (offer ev s).idx = 0#32 := rfl
@[simp] theorem offer_mode : (offer ev s).mode = s.mode := rfl
@[simp] theorem offer_ctrlMode : (offer ev s).ctrlMode = s.ctrlMode := rfl
@[simp] theorem offer_hbuf : (offer ev s).hbuf = s.hbuf := rfl
@[simp] theorem offer_version : (offer ev s).version = s.version := rfl
@[simp] theorem offer_typeRaw : (offer ev s).typeRaw = s.typeRaw := rfl
@[simp] theorem offer_ptype : (offer ev s).ptype = s.ptype := rfl
@[simp] theorem offer_plen : (offer ev s).plen = s.plen := rfl
@[simp] theorem offer_hcrc : (offer ev s).hcrc = s.hcrc := rfl
@[simp] theorem offer_crc : (offer ev s).crc = s.crc := rfl
@[simp] theorem offer_pbuf : (offer ev s).pbuf = s.pbuf := rfl
@[simp] theorem offer_pcbuf : (offer ev s).pcbuf = s.pcbuf := rfl
@[simp] theorem offer_pcrc : (offer ev s).pcrc = s.pcrc := rfl
@[simp] theorem offer_pending : (offer ev s).pending = some ev := rfl
@[simp] theorem offer_endSeen : (offer ev s).endSeen = s.endSeen := rfl
@[simp] theorem offer_closed : (offer ev s).closed = s.closed := rfl
@[simp] theorem offer_errClass : (offer ev s).errClass = s.errClass := rfl
@[simp] theorem offer_errWhere : (offer ev s).errWhere = s.errWhere := rfl
@[simp] theorem offer_errInfo : (offer ev s).errInfo = s.errInfo := rfl
@[simp] theorem offer_errCrc : (offer ev s).errCrc = s.errCrc := rfl
@[simp] theorem offer_frameCount : (offer ev s).frameCount = s.frameCount := rfl
@[simp] theorem offer_history : (offer ev s).history = s.history := rfl
@[simp] theorem offer_params : (offer ev s).params = s.params := rfl
@[simp] theorem offer_stream : (offer ev s).stream = s.stream := rfl
@[simp] theorem offer_streamEnds : (offer ev s).streamEnds = s.streamEnds := rfl
@[simp] theorem offer_inputs : (offer ev s).inputs = s.inputs := rfl
@[simp] theorem offer_withdrawn : (offer ev s).withdrawn = s.withdrawn := rfl

end

/-! ### beginSession -/

section
variable (s : State)

@[simp] theorem beginSession_phase : (beginSession s).phase = .hdr := rfl
@[simp] theorem beginSession_idx : (beginSession s).idx = 0#32 := rfl
@[simp] theorem beginSession_mode : (beginSession s).mode = s.ctrlMode := rfl
@[simp] theorem beginSession_ctrlMode : (beginSession s).ctrlMode = s.ctrlMode := rfl
@[simp] theorem beginSession_hbuf : (beginSession s).hbuf = s.hbuf := rfl
@[simp] theorem beginSession_version : (beginSession s).version = s.version := rfl
@[simp] theorem beginSession_typeRaw : (beginSession s).typeRaw = s.typeRaw := rfl
@[simp] theorem beginSession_ptype : (beginSession s).ptype = s.ptype := rfl
@[simp] theorem beginSession_plen : (beginSession s).plen = s.plen := rfl
@[simp] theorem beginSession_hcrc : (beginSession s).hcrc = s.hcrc := rfl
@[simp] theorem beginSession_crc : (beginSession s).crc = crcInitial := rfl
@[simp] theorem beginSession_pbuf : (beginSession s).pbuf = s.pbuf := rfl
@[simp] theorem beginSession_pcbuf : (beginSession s).pcbuf = s.pcbuf := rfl
@[simp] theorem beginSession_pcrc : (beginSession s).pcrc = s.pcrc := rfl
@[simp] theorem beginSession_pending : (beginSession s).pending = none := rfl
@[simp] theorem beginSession_endSeen : (beginSession s).endSeen = false := rfl
@[simp] theorem beginSession_closed : (beginSession s).closed = false := rfl
@[simp] theorem beginSession_errClass : (beginSession s).errClass = .none := rfl
@[simp] theorem beginSession_errWhere : (beginSession s).errWhere = .none := rfl
@[simp] theorem beginSession_errInfo : (beginSession s).errInfo = 0#32 := rfl
@[simp] theorem beginSession_errCrc : (beginSession s).errCrc = 0#32 := rfl
@[simp] theorem beginSession_frameCount : (beginSession s).frameCount = 0#32 := rfl
@[simp] theorem beginSession_history : (beginSession s).history = s.history := rfl
@[simp] theorem beginSession_params : (beginSession s).params = s.params := rfl
@[simp] theorem beginSession_stream : (beginSession s).stream = s.stream := rfl
@[simp] theorem beginSession_streamEnds : (beginSession s).streamEnds = s.streamEnds := rfl
@[simp] theorem beginSession_inputs : (beginSession s).inputs = s.inputs := rfl
@[simp] theorem beginSession_withdrawn : (beginSession s).withdrawn = none := rfl

end

/-! ### cancelSession -/

section
variable (s : State)

@[simp] theorem cancelSession_phase : (cancelSession s).phase = .aborted := rfl
@[simp] theorem cancelSession_idx : (cancelSession s).idx = 0#32 := rfl
@[simp] theorem cancelSession_mode : (cancelSession s).mode = s.mode := rfl
@[simp] theorem cancelSession_ctrlMode : (cancelSession s).ctrlMode = s.ctrlMode := rfl
@[simp] theorem cancelSession_hbuf : (cancelSession s).hbuf = s.hbuf := rfl
@[simp] theorem cancelSession_version : (cancelSession s).version = s.version := rfl
@[simp] theorem cancelSession_typeRaw : (cancelSession s).typeRaw = s.typeRaw := rfl
@[simp] theorem cancelSession_ptype : (cancelSession s).ptype = s.ptype := rfl
@[simp] theorem cancelSession_plen : (cancelSession s).plen = s.plen := rfl
@[simp] theorem cancelSession_hcrc : (cancelSession s).hcrc = s.hcrc := rfl
@[simp] theorem cancelSession_crc : (cancelSession s).crc = s.crc := rfl
@[simp] theorem cancelSession_pbuf : (cancelSession s).pbuf = s.pbuf := rfl
@[simp] theorem cancelSession_pcbuf : (cancelSession s).pcbuf = s.pcbuf := rfl
@[simp] theorem cancelSession_pcrc : (cancelSession s).pcrc = s.pcrc := rfl
@[simp] theorem cancelSession_pending : (cancelSession s).pending = none := rfl
@[simp] theorem cancelSession_endSeen : (cancelSession s).endSeen = s.endSeen := rfl
@[simp] theorem cancelSession_closed : (cancelSession s).closed = true := rfl
@[simp] theorem cancelSession_errClass : (cancelSession s).errClass = s.errClass := rfl
@[simp] theorem cancelSession_errWhere : (cancelSession s).errWhere = s.errWhere := rfl
@[simp] theorem cancelSession_errInfo : (cancelSession s).errInfo = s.errInfo := rfl
@[simp] theorem cancelSession_errCrc : (cancelSession s).errCrc = s.errCrc := rfl
@[simp] theorem cancelSession_frameCount : (cancelSession s).frameCount = s.frameCount := rfl
@[simp] theorem cancelSession_history : (cancelSession s).history = s.historyClosed := rfl
@[simp] theorem cancelSession_params : (cancelSession s).params = s.params := rfl
@[simp] theorem cancelSession_stream : (cancelSession s).stream = s.stream := rfl
@[simp] theorem cancelSession_streamEnds : (cancelSession s).streamEnds = s.streamEnds := rfl
@[simp] theorem cancelSession_inputs : (cancelSession s).inputs = s.inputs := rfl
@[simp] theorem cancelSession_withdrawn : (cancelSession s).withdrawn = s.outstanding := rfl

end

/-! ### resetBlock -/

section
variable (s : State)

@[simp] theorem resetBlock_phase : (resetBlock s).phase = State.reset.phase := rfl
@[simp] theorem resetBlock_idx : (resetBlock s).idx = State.reset.idx := rfl
@[simp] theorem resetBlock_mode : (resetBlock s).mode = State.reset.mode := rfl
@[simp] theorem resetBlock_ctrlMode : (resetBlock s).ctrlMode = State.reset.ctrlMode := rfl
@[simp] theorem resetBlock_hbuf : (resetBlock s).hbuf = State.reset.hbuf := rfl
@[simp] theorem resetBlock_version : (resetBlock s).version = State.reset.version := rfl
@[simp] theorem resetBlock_typeRaw : (resetBlock s).typeRaw = State.reset.typeRaw := rfl
@[simp] theorem resetBlock_ptype : (resetBlock s).ptype = State.reset.ptype := rfl
@[simp] theorem resetBlock_plen : (resetBlock s).plen = State.reset.plen := rfl
@[simp] theorem resetBlock_hcrc : (resetBlock s).hcrc = State.reset.hcrc := rfl
@[simp] theorem resetBlock_crc : (resetBlock s).crc = State.reset.crc := rfl
@[simp] theorem resetBlock_pbuf : (resetBlock s).pbuf = State.reset.pbuf := rfl
@[simp] theorem resetBlock_pcbuf : (resetBlock s).pcbuf = State.reset.pcbuf := rfl
@[simp] theorem resetBlock_pcrc : (resetBlock s).pcrc = State.reset.pcrc := rfl
@[simp] theorem resetBlock_pending : (resetBlock s).pending = State.reset.pending := rfl
@[simp] theorem resetBlock_endSeen : (resetBlock s).endSeen = State.reset.endSeen := rfl
@[simp] theorem resetBlock_closed : (resetBlock s).closed = State.reset.closed := rfl
@[simp] theorem resetBlock_errClass : (resetBlock s).errClass = State.reset.errClass := rfl
@[simp] theorem resetBlock_errWhere : (resetBlock s).errWhere = State.reset.errWhere := rfl
@[simp] theorem resetBlock_errInfo : (resetBlock s).errInfo = State.reset.errInfo := rfl
@[simp] theorem resetBlock_errCrc : (resetBlock s).errCrc = State.reset.errCrc := rfl
@[simp] theorem resetBlock_frameCount : (resetBlock s).frameCount = State.reset.frameCount := rfl
@[simp] theorem resetBlock_history : (resetBlock s).history = s.history := rfl
@[simp] theorem resetBlock_params : (resetBlock s).params = s.params := rfl
@[simp] theorem resetBlock_stream : (resetBlock s).stream = s.stream := rfl
@[simp] theorem resetBlock_streamEnds : (resetBlock s).streamEnds = s.streamEnds := rfl
@[simp] theorem resetBlock_inputs : (resetBlock s).inputs = s.inputs := rfl
@[simp] theorem resetBlock_withdrawn : (resetBlock s).withdrawn = s.outstanding.or s.withdrawn := rfl

end

/-! ### countFrame -/

section
variable (p : PType) (s : State)

@[simp] theorem countFrame_phase : (countFrame p s).phase = s.phase := rfl
@[simp] theorem countFrame_idx : (countFrame p s).idx = s.idx := rfl
@[simp] theorem countFrame_mode : (countFrame p s).mode = s.mode := rfl
@[simp] theorem countFrame_ctrlMode : (countFrame p s).ctrlMode = s.ctrlMode := rfl
@[simp] theorem countFrame_hbuf : (countFrame p s).hbuf = s.hbuf := rfl
@[simp] theorem countFrame_version : (countFrame p s).version = s.version := rfl
@[simp] theorem countFrame_typeRaw : (countFrame p s).typeRaw = s.typeRaw := rfl
@[simp] theorem countFrame_ptype : (countFrame p s).ptype = s.ptype := rfl
@[simp] theorem countFrame_plen : (countFrame p s).plen = s.plen := rfl
@[simp] theorem countFrame_hcrc : (countFrame p s).hcrc = s.hcrc := rfl
@[simp] theorem countFrame_crc : (countFrame p s).crc = s.crc := rfl
@[simp] theorem countFrame_pbuf : (countFrame p s).pbuf = s.pbuf := rfl
@[simp] theorem countFrame_pcbuf : (countFrame p s).pcbuf = s.pcbuf := rfl
@[simp] theorem countFrame_pcrc : (countFrame p s).pcrc = s.pcrc := rfl
@[simp] theorem countFrame_pending : (countFrame p s).pending = s.pending := rfl
@[simp] theorem countFrame_endSeen : (countFrame p s).endSeen = (if p = .endMark then true else s.endSeen) := rfl
@[simp] theorem countFrame_closed : (countFrame p s).closed = s.closed := rfl
@[simp] theorem countFrame_errClass : (countFrame p s).errClass = s.errClass := rfl
@[simp] theorem countFrame_errWhere : (countFrame p s).errWhere = s.errWhere := rfl
@[simp] theorem countFrame_errInfo : (countFrame p s).errInfo = s.errInfo := rfl
@[simp] theorem countFrame_errCrc : (countFrame p s).errCrc = s.errCrc := rfl
@[simp] theorem countFrame_frameCount : (countFrame p s).frameCount = s.frameCount + 1#32 := rfl
@[simp] theorem countFrame_history : (countFrame p s).history = s.history := rfl
@[simp] theorem countFrame_params : (countFrame p s).params = s.params := rfl
@[simp] theorem countFrame_stream : (countFrame p s).stream = s.stream := rfl
@[simp] theorem countFrame_streamEnds : (countFrame p s).streamEnds = s.streamEnds := rfl
@[simp] theorem countFrame_inputs : (countFrame p s).inputs = s.inputs := rfl
@[simp] theorem countFrame_withdrawn : (countFrame p s).withdrawn = s.withdrawn := rfl

end

/-! ### writeMode -/

section
variable (m : Mode) (s : State)

@[simp] theorem writeMode_phase : (writeMode m s).phase = s.phase := rfl
@[simp] theorem writeMode_idx : (writeMode m s).idx = s.idx := rfl
@[simp] theorem writeMode_mode : (writeMode m s).mode = s.mode := rfl
@[simp] theorem writeMode_ctrlMode : (writeMode m s).ctrlMode = m := rfl
@[simp] theorem writeMode_hbuf : (writeMode m s).hbuf = s.hbuf := rfl
@[simp] theorem writeMode_version : (writeMode m s).version = s.version := rfl
@[simp] theorem writeMode_typeRaw : (writeMode m s).typeRaw = s.typeRaw := rfl
@[simp] theorem writeMode_ptype : (writeMode m s).ptype = s.ptype := rfl
@[simp] theorem writeMode_plen : (writeMode m s).plen = s.plen := rfl
@[simp] theorem writeMode_hcrc : (writeMode m s).hcrc = s.hcrc := rfl
@[simp] theorem writeMode_crc : (writeMode m s).crc = s.crc := rfl
@[simp] theorem writeMode_pbuf : (writeMode m s).pbuf = s.pbuf := rfl
@[simp] theorem writeMode_pcbuf : (writeMode m s).pcbuf = s.pcbuf := rfl
@[simp] theorem writeMode_pcrc : (writeMode m s).pcrc = s.pcrc := rfl
@[simp] theorem writeMode_pending : (writeMode m s).pending = s.pending := rfl
@[simp] theorem writeMode_endSeen : (writeMode m s).endSeen = s.endSeen := rfl
@[simp] theorem writeMode_closed : (writeMode m s).closed = s.closed := rfl
@[simp] theorem writeMode_errClass : (writeMode m s).errClass = s.errClass := rfl
@[simp] theorem writeMode_errWhere : (writeMode m s).errWhere = s.errWhere := rfl
@[simp] theorem writeMode_errInfo : (writeMode m s).errInfo = s.errInfo := rfl
@[simp] theorem writeMode_errCrc : (writeMode m s).errCrc = s.errCrc := rfl
@[simp] theorem writeMode_frameCount : (writeMode m s).frameCount = s.frameCount := rfl
@[simp] theorem writeMode_history : (writeMode m s).history = s.history := rfl
@[simp] theorem writeMode_params : (writeMode m s).params = s.params := rfl
@[simp] theorem writeMode_stream : (writeMode m s).stream = s.stream := rfl
@[simp] theorem writeMode_streamEnds : (writeMode m s).streamEnds = s.streamEnds := rfl
@[simp] theorem writeMode_inputs : (writeMode m s).inputs = s.inputs := rfl
@[simp] theorem writeMode_withdrawn : (writeMode m s).withdrawn = s.withdrawn := rfl

end

/-! ### storeHeaderByte -/

section
variable (b : Byte) (s : State)

@[simp] theorem storeHeaderByte_phase : (storeHeaderByte b s).phase = s.phase := rfl
@[simp] theorem storeHeaderByte_idx : (storeHeaderByte b s).idx = s.idx := rfl
@[simp] theorem storeHeaderByte_mode : (storeHeaderByte b s).mode = s.mode := rfl
@[simp] theorem storeHeaderByte_ctrlMode : (storeHeaderByte b s).ctrlMode = s.ctrlMode := rfl
@[simp] theorem storeHeaderByte_hbuf : (storeHeaderByte b s).hbuf = s.hbuf.setIfInBounds s.idx.toNat b := rfl
@[simp] theorem storeHeaderByte_version : (storeHeaderByte b s).version = s.version := rfl
@[simp] theorem storeHeaderByte_typeRaw : (storeHeaderByte b s).typeRaw = s.typeRaw := rfl
@[simp] theorem storeHeaderByte_ptype : (storeHeaderByte b s).ptype = s.ptype := rfl
@[simp] theorem storeHeaderByte_plen : (storeHeaderByte b s).plen = s.plen := rfl
@[simp] theorem storeHeaderByte_hcrc : (storeHeaderByte b s).hcrc = s.hcrc := rfl
@[simp] theorem storeHeaderByte_crc : (storeHeaderByte b s).crc = if s.idx.toNat ≤ 7 then crcStep s.crc b else s.crc := rfl
@[simp] theorem storeHeaderByte_pbuf : (storeHeaderByte b s).pbuf = s.pbuf := rfl
@[simp] theorem storeHeaderByte_pcbuf : (storeHeaderByte b s).pcbuf = s.pcbuf := rfl
@[simp] theorem storeHeaderByte_pcrc : (storeHeaderByte b s).pcrc = s.pcrc := rfl
@[simp] theorem storeHeaderByte_pending : (storeHeaderByte b s).pending = s.pending := rfl
@[simp] theorem storeHeaderByte_endSeen : (storeHeaderByte b s).endSeen = s.endSeen := rfl
@[simp] theorem storeHeaderByte_closed : (storeHeaderByte b s).closed = s.closed := rfl
@[simp] theorem storeHeaderByte_errClass : (storeHeaderByte b s).errClass = s.errClass := rfl
@[simp] theorem storeHeaderByte_errWhere : (storeHeaderByte b s).errWhere = s.errWhere := rfl
@[simp] theorem storeHeaderByte_errInfo : (storeHeaderByte b s).errInfo = s.errInfo := rfl
@[simp] theorem storeHeaderByte_errCrc : (storeHeaderByte b s).errCrc = s.errCrc := rfl
@[simp] theorem storeHeaderByte_frameCount : (storeHeaderByte b s).frameCount = s.frameCount := rfl
@[simp] theorem storeHeaderByte_history : (storeHeaderByte b s).history = s.history := rfl
@[simp] theorem storeHeaderByte_params : (storeHeaderByte b s).params = s.params := rfl
@[simp] theorem storeHeaderByte_stream : (storeHeaderByte b s).stream = s.stream := rfl
@[simp] theorem storeHeaderByte_streamEnds : (storeHeaderByte b s).streamEnds = s.streamEnds := rfl
@[simp] theorem storeHeaderByte_inputs : (storeHeaderByte b s).inputs = s.inputs := rfl
@[simp] theorem storeHeaderByte_withdrawn : (storeHeaderByte b s).withdrawn = s.withdrawn := rfl

end

/-! ### latchHeader -/

section
variable (s : State)

@[simp] theorem latchHeader_phase : (latchHeader s).phase = s.phase := rfl
@[simp] theorem latchHeader_idx : (latchHeader s).idx = s.idx := rfl
@[simp] theorem latchHeader_mode : (latchHeader s).mode = s.mode := rfl
@[simp] theorem latchHeader_ctrlMode : (latchHeader s).ctrlMode = s.ctrlMode := rfl
@[simp] theorem latchHeader_hbuf : (latchHeader s).hbuf = s.hbuf := rfl
@[simp] theorem latchHeader_version : (latchHeader s).version = s.hbuf[0] := rfl
@[simp] theorem latchHeader_typeRaw : (latchHeader s).typeRaw = headerType s.hbuf := rfl
@[simp] theorem latchHeader_ptype : (latchHeader s).ptype = resolve (headerType s.hbuf) := rfl
@[simp] theorem latchHeader_plen : (latchHeader s).plen = headerLength s.hbuf := rfl
@[simp] theorem latchHeader_hcrc : (latchHeader s).hcrc = headerChecksum s.hbuf := rfl
@[simp] theorem latchHeader_crc : (latchHeader s).crc = s.crc := rfl
@[simp] theorem latchHeader_pbuf : (latchHeader s).pbuf = s.pbuf := rfl
@[simp] theorem latchHeader_pcbuf : (latchHeader s).pcbuf = s.pcbuf := rfl
@[simp] theorem latchHeader_pcrc : (latchHeader s).pcrc = s.pcrc := rfl
@[simp] theorem latchHeader_pending : (latchHeader s).pending = s.pending := rfl
@[simp] theorem latchHeader_endSeen : (latchHeader s).endSeen = s.endSeen := rfl
@[simp] theorem latchHeader_closed : (latchHeader s).closed = s.closed := rfl
@[simp] theorem latchHeader_errClass : (latchHeader s).errClass = s.errClass := rfl
@[simp] theorem latchHeader_errWhere : (latchHeader s).errWhere = s.errWhere := rfl
@[simp] theorem latchHeader_errInfo : (latchHeader s).errInfo = s.errInfo := rfl
@[simp] theorem latchHeader_errCrc : (latchHeader s).errCrc = s.errCrc := rfl
@[simp] theorem latchHeader_frameCount : (latchHeader s).frameCount = s.frameCount := rfl
@[simp] theorem latchHeader_history : (latchHeader s).history = s.history := rfl
@[simp] theorem latchHeader_params : (latchHeader s).params = s.params := rfl
@[simp] theorem latchHeader_stream : (latchHeader s).stream = s.stream := rfl
@[simp] theorem latchHeader_streamEnds : (latchHeader s).streamEnds = s.streamEnds := rfl
@[simp] theorem latchHeader_inputs : (latchHeader s).inputs = s.inputs := rfl
@[simp] theorem latchHeader_withdrawn : (latchHeader s).withdrawn = s.withdrawn := rfl

end

/-! ### payBegin -/

section
variable (s : State)

@[simp] theorem payBegin_phase : (payBegin s).phase = .pay := rfl
@[simp] theorem payBegin_idx : (payBegin s).idx = 0#32 := rfl
@[simp] theorem payBegin_mode : (payBegin s).mode = s.mode := rfl
@[simp] theorem payBegin_ctrlMode : (payBegin s).ctrlMode = s.ctrlMode := rfl
@[simp] theorem payBegin_hbuf : (payBegin s).hbuf = s.hbuf := rfl
@[simp] theorem payBegin_version : (payBegin s).version = s.version := rfl
@[simp] theorem payBegin_typeRaw : (payBegin s).typeRaw = s.typeRaw := rfl
@[simp] theorem payBegin_ptype : (payBegin s).ptype = s.ptype := rfl
@[simp] theorem payBegin_plen : (payBegin s).plen = s.plen := rfl
@[simp] theorem payBegin_hcrc : (payBegin s).hcrc = s.hcrc := rfl
@[simp] theorem payBegin_crc : (payBegin s).crc = crcInitial := rfl
@[simp] theorem payBegin_pbuf : (payBegin s).pbuf = [] := rfl
@[simp] theorem payBegin_pcbuf : (payBegin s).pcbuf = s.pcbuf := rfl
@[simp] theorem payBegin_pcrc : (payBegin s).pcrc = s.pcrc := rfl
@[simp] theorem payBegin_pending : (payBegin s).pending = s.pending := rfl
@[simp] theorem payBegin_endSeen : (payBegin s).endSeen = s.endSeen := rfl
@[simp] theorem payBegin_closed : (payBegin s).closed = s.closed := rfl
@[simp] theorem payBegin_errClass : (payBegin s).errClass = s.errClass := rfl
@[simp] theorem payBegin_errWhere : (payBegin s).errWhere = s.errWhere := rfl
@[simp] theorem payBegin_errInfo : (payBegin s).errInfo = s.errInfo := rfl
@[simp] theorem payBegin_errCrc : (payBegin s).errCrc = s.errCrc := rfl
@[simp] theorem payBegin_frameCount : (payBegin s).frameCount = s.frameCount := rfl
@[simp] theorem payBegin_history : (payBegin s).history = s.history := rfl
@[simp] theorem payBegin_params : (payBegin s).params = s.params := rfl
@[simp] theorem payBegin_stream : (payBegin s).stream = s.stream := rfl
@[simp] theorem payBegin_streamEnds : (payBegin s).streamEnds = s.streamEnds := rfl
@[simp] theorem payBegin_inputs : (payBegin s).inputs = s.inputs := rfl
@[simp] theorem payBegin_withdrawn : (payBegin s).withdrawn = s.withdrawn := rfl

end

/-! ### storeChecksumByte -/

section
variable (b : Byte) (s : State)

@[simp] theorem storeChecksumByte_phase : (storeChecksumByte b s).phase = s.phase := rfl
@[simp] theorem storeChecksumByte_idx : (storeChecksumByte b s).idx = s.idx := rfl
@[simp] theorem storeChecksumByte_mode : (storeChecksumByte b s).mode = s.mode := rfl
@[simp] theorem storeChecksumByte_ctrlMode : (storeChecksumByte b s).ctrlMode = s.ctrlMode := rfl
@[simp] theorem storeChecksumByte_hbuf : (storeChecksumByte b s).hbuf = s.hbuf := rfl
@[simp] theorem storeChecksumByte_version : (storeChecksumByte b s).version = s.version := rfl
@[simp] theorem storeChecksumByte_typeRaw : (storeChecksumByte b s).typeRaw = s.typeRaw := rfl
@[simp] theorem storeChecksumByte_ptype : (storeChecksumByte b s).ptype = s.ptype := rfl
@[simp] theorem storeChecksumByte_plen : (storeChecksumByte b s).plen = s.plen := rfl
@[simp] theorem storeChecksumByte_hcrc : (storeChecksumByte b s).hcrc = s.hcrc := rfl
@[simp] theorem storeChecksumByte_crc : (storeChecksumByte b s).crc = s.crc := rfl
@[simp] theorem storeChecksumByte_pbuf : (storeChecksumByte b s).pbuf = s.pbuf := rfl
@[simp] theorem storeChecksumByte_pcbuf : (storeChecksumByte b s).pcbuf = s.pcbuf.setIfInBounds s.idx.toNat b := rfl
@[simp] theorem storeChecksumByte_pcrc : (storeChecksumByte b s).pcrc = s.pcrc := rfl
@[simp] theorem storeChecksumByte_pending : (storeChecksumByte b s).pending = s.pending := rfl
@[simp] theorem storeChecksumByte_endSeen : (storeChecksumByte b s).endSeen = s.endSeen := rfl
@[simp] theorem storeChecksumByte_closed : (storeChecksumByte b s).closed = s.closed := rfl
@[simp] theorem storeChecksumByte_errClass : (storeChecksumByte b s).errClass = s.errClass := rfl
@[simp] theorem storeChecksumByte_errWhere : (storeChecksumByte b s).errWhere = s.errWhere := rfl
@[simp] theorem storeChecksumByte_errInfo : (storeChecksumByte b s).errInfo = s.errInfo := rfl
@[simp] theorem storeChecksumByte_errCrc : (storeChecksumByte b s).errCrc = s.errCrc := rfl
@[simp] theorem storeChecksumByte_frameCount : (storeChecksumByte b s).frameCount = s.frameCount := rfl
@[simp] theorem storeChecksumByte_history : (storeChecksumByte b s).history = s.history := rfl
@[simp] theorem storeChecksumByte_params : (storeChecksumByte b s).params = s.params := rfl
@[simp] theorem storeChecksumByte_stream : (storeChecksumByte b s).stream = s.stream := rfl
@[simp] theorem storeChecksumByte_streamEnds : (storeChecksumByte b s).streamEnds = s.streamEnds := rfl
@[simp] theorem storeChecksumByte_inputs : (storeChecksumByte b s).inputs = s.inputs := rfl
@[simp] theorem storeChecksumByte_withdrawn : (storeChecksumByte b s).withdrawn = s.withdrawn := rfl

end

/-! ### latchChecksum -/

section
variable (s : State)

@[simp] theorem latchChecksum_phase : (latchChecksum s).phase = s.phase := rfl
@[simp] theorem latchChecksum_idx : (latchChecksum s).idx = s.idx := rfl
@[simp] theorem latchChecksum_mode : (latchChecksum s).mode = s.mode := rfl
@[simp] theorem latchChecksum_ctrlMode : (latchChecksum s).ctrlMode = s.ctrlMode := rfl
@[simp] theorem latchChecksum_hbuf : (latchChecksum s).hbuf = s.hbuf := rfl
@[simp] theorem latchChecksum_version : (latchChecksum s).version = s.version := rfl
@[simp] theorem latchChecksum_typeRaw : (latchChecksum s).typeRaw = s.typeRaw := rfl
@[simp] theorem latchChecksum_ptype : (latchChecksum s).ptype = s.ptype := rfl
@[simp] theorem latchChecksum_plen : (latchChecksum s).plen = s.plen := rfl
@[simp] theorem latchChecksum_hcrc : (latchChecksum s).hcrc = s.hcrc := rfl
@[simp] theorem latchChecksum_crc : (latchChecksum s).crc = s.crc := rfl
@[simp] theorem latchChecksum_pbuf : (latchChecksum s).pbuf = s.pbuf := rfl
@[simp] theorem latchChecksum_pcbuf : (latchChecksum s).pcbuf = s.pcbuf := rfl
@[simp] theorem latchChecksum_pcrc : (latchChecksum s).pcrc = payloadChecksum s.pcbuf := rfl
@[simp] theorem latchChecksum_pending : (latchChecksum s).pending = s.pending := rfl
@[simp] theorem latchChecksum_endSeen : (latchChecksum s).endSeen = s.endSeen := rfl
@[simp] theorem latchChecksum_closed : (latchChecksum s).closed = s.closed := rfl
@[simp] theorem latchChecksum_errClass : (latchChecksum s).errClass = s.errClass := rfl
@[simp] theorem latchChecksum_errWhere : (latchChecksum s).errWhere = s.errWhere := rfl
@[simp] theorem latchChecksum_errInfo : (latchChecksum s).errInfo = s.errInfo := rfl
@[simp] theorem latchChecksum_errCrc : (latchChecksum s).errCrc = s.errCrc := rfl
@[simp] theorem latchChecksum_frameCount : (latchChecksum s).frameCount = s.frameCount := rfl
@[simp] theorem latchChecksum_history : (latchChecksum s).history = s.history := rfl
@[simp] theorem latchChecksum_params : (latchChecksum s).params = s.params := rfl
@[simp] theorem latchChecksum_stream : (latchChecksum s).stream = s.stream := rfl
@[simp] theorem latchChecksum_streamEnds : (latchChecksum s).streamEnds = s.streamEnds := rfl
@[simp] theorem latchChecksum_inputs : (latchChecksum s).inputs = s.inputs := rfl
@[simp] theorem latchChecksum_withdrawn : (latchChecksum s).withdrawn = s.withdrawn := rfl

end

/-! ### Supplies

What the next item of a supply is, form by form, and which updates of the state leave it. -/

@[simp] theorem next_ready {α : Type} (draw : Nat → Nat → α) (a : α) (rest : List α) (t : Tail α) :
    (⟨a :: rest, t⟩ : Supply α).next draw = some (a, ⟨rest, t⟩) := by cases t <;> rfl
@[simp] theorem next_stops {α : Type} (draw : Nat → Nat → α) : (⟨[], .stops⟩ : Supply α).next draw = none := rfl
@[simp] theorem next_repeats {α : Type} (draw : Nat → Nat → α) (a : α) (more : List α) :
    (⟨[], .repeats a more⟩ : Supply α).next draw = some (a, ⟨more, .repeats a more⟩) := rfl
@[simp] theorem next_drawn {α : Type} (draw : Nat → Nat → α) (name n : Nat) :
    (⟨[], .drawn name n⟩ : Supply α).next draw = some (draw name n, ⟨[], .drawn name (n + 1)⟩) := rfl

/-- A supply has no next item exactly when nothing is written and it stops. -/
theorem next_eq_none {α : Type} {draw : Nat → Nat → α} {u : Supply α} : u.next draw = none ↔ u = ⟨[], .stops⟩ := by
  obtain ⟨_ | ⟨a, rest⟩, _ | ⟨b, more⟩ | ⟨name, n⟩⟩ := u <;> simp

@[simp] theorem nextByte_inputs (s : State) (inputs : Supply Input) :
    ({ s with inputs := inputs } : State).nextByte = s.nextByte := rfl
@[simp] theorem nextMove_inputs (s : State) (inputs : Supply Input) :
    ({ s with inputs := inputs } : State).nextMove = inputs.next Config.freeMove := rfl
@[simp] theorem nextByte_stream (s : State) (stream : Supply Byte) :
    ({ s with stream := stream } : State).nextByte = stream.next Config.freeByte := rfl
@[simp] theorem nextMove_stream (s : State) (stream : Supply Byte) :
    ({ s with stream := stream } : State).nextMove = s.nextMove := rfl

end Sys2Proof.Machine
end

