-- ==== Sys2Proof/Laws/Ops.lean ====
section
/-! SUPPORT. What each shared operation can do, said once: the split, the completion of a frame, the checks, exec, and
the step by the move it makes. -/

namespace Sys2Proof.Machine

/-! ### The payload -/

@[simp] theorem absentIfEmpty_nil : absentIfEmpty [] = none := rfl

@[simp] theorem absentIfEmpty_cons (b : Byte) (p : List Byte) : absentIfEmpty (b :: p) = some (b :: p) := rfl

theorem absentIfEmpty_of_ne_nil {p : List Byte} (h : p ≠ []) : absentIfEmpty p = some p := by
  cases p with
  | nil => exact absurd rfl h
  | cons b q => rfl

theorem absentIfEmpty_wellFormed (p : List Byte) : dataWellFormed (absentIfEmpty p) = true := by
  cases p <;> rfl

/-- What SPLIT answers is well formed, whatever it is given (R86, R149). -/
theorem split_wellFormed {c : ShortOffset} {t : PType} {body o d : Option (List Byte)}
    (h : split c t body = .parts o d) : offsetWellFormed o = true ∧ dataWellFormed d = true := by
  cases body with
  | none =>
    obtain ⟨rfl, rfl⟩ : none = o ∧ none = d := by simpa [split] using h
    exact ⟨rfl, rfl⟩
  | some p =>
    by_cases ht : t.hasOffset
    · by_cases hp : offsetSize ≤ p.length
      · obtain ⟨rfl, rfl⟩ : _ = o ∧ _ = d := by simpa [split, ht, hp] using h
        exact ⟨by simp [offsetWellFormed, offsetSize] at *; omega, absentIfEmpty_wellFormed _⟩
      · cases c with
        | malformed => simp [split, ht, hp, splitShort] at h
        | truncate =>
          obtain ⟨rfl, rfl⟩ : _ = o ∧ _ = d := by simpa [split, ht, hp, splitShort] using h
          refine ⟨?_, rfl⟩
          cases p with
          | nil => rfl
          | cons b q => simp [offsetWellFormed, offsetSize] at *; omega
    · obtain ⟨rfl, rfl⟩ : none = o ∧ _ = d := by simpa [split, ht] using h
      exact ⟨rfl, absentIfEmpty_wellFormed _⟩

/-! ### Completing a frame -/

/-- FRAME_COMPLETE raises on a short offset, and otherwise acts on the frame it has counted (R145, R148). -/
theorem completeFrame_cases (v : Byte) (p : PType) (act : Frame → State → State) (s : State) :
    (∃ len, split s.params.shortOffset p s.body = .short len ∧
      completeFrame v p act s = raise .malformed .payload (BitVec.ofNat 32 len) 0#32 s) ∨
    (∃ o d, split s.params.shortOffset p s.body = .parts o d ∧
      completeFrame v p act s = act (s.buildFrame v p o d) (countFrame p s)) := by
  unfold completeFrame
  cases split s.params.shortOffset p s.body with
  | short len => exact .inl ⟨len, rfl, rfl⟩
  | parts o d => exact .inr ⟨o, d, rfl, rfl⟩

/-- The symbolic type of a frame operation (R76). -/
def frameType : Instr → Option PType
  | .frameRecord _ => some .record
  | .frameException _ => some .exception
  | .frameStats _ => some .stats
  | .frameContinuation _ => some .continuation
  | .frameEnd _ => some .endMark
  | .frameUnknown _ t => some (.unknown (t.setWidth 32))
  | .cmdStart _ _ | .cmdAbort _ _ _ | .cmdNop _ _ => none

/-- What the operation of a frame of type p can leave, in a state where it is executed (R145, R152): the error of a
short offset; an event well formed for the mode; the next header; the session's end; the unknown type's error. -/
inductive FrameEffect (p : PType) (s : State) : State → Prop where
  | shortOffset (info : Word) : FrameEffect p s (raise .malformed .payload info 0#32 s)
  | offered (ev : Event) (h : p.code.toNat < 2 ^ 24 → ev.wellFormed s.mode = true) :
      FrameEffect p s (offer ev (countFrame p s))
  | absorbed (h : p = .continuation) : FrameEffect p s (nextFrame (countFrame p s))
  | ended (h : p = .endMark) : FrameEffect p s (finishOk (countFrame p s))
  | rejected (r : Word) (h : p = .unknown r) :
      FrameEffect p s (raise .unknownType .none r 0#32 (countFrame p s))

/-- The event a mode offers is well formed when the frame's parts are (R86). -/
theorem frameEvent_wellFormed (s : State) (v : Byte) (p : PType) {o d : Option (List Byte)}
    (h : offsetWellFormed o = true ∧ dataWellFormed d = true) (hp : p.code.toNat < 2 ^ 24) :
    (Event.frame (s.buildFrame v p o d)).wellFormed .decode = true := by
  simp only [Event.wellFormed, State.buildFrame, h.1, h.2, Bool.and_true]
  exact decide_eq_true hp

/-- Every frame operation answers a next state, and one FrameEffect names (R170 to R175). -/
theorem exec_frame (i : Instr) (p : PType) (hi : frameType i = some p) (s : State) :
    ∃ t, exec i s = .next t ∧ FrameEffect p s t := by
  have key (v : Byte) (act : Frame → State → State)
      (h : ∀ o d, split s.params.shortOffset p s.body = .parts o d →
        FrameEffect p s (act (s.buildFrame v p o d) (countFrame p s))) :
      FrameEffect p s (completeFrame v p act s) := by
    obtain ⟨len, -, e⟩ | ⟨o, d, hs, e⟩ := completeFrame_cases v p act s
    · rw [e]; exact .shortOffset _
    · rw [e]; exact h o d hs
  cases i <;> simp only [frameType, Option.some.injEq, reduceCtorEq] at hi <;> subst hi <;>
    refine ⟨_, rfl, key _ _ fun o d hs => ?_⟩ <;> have wf := split_wellFormed hs <;>
    rcases hm : s.mode with _ | _ <;>
    simp only [actRecord, actException, actStats, actContinuation, actEnd, actUnknown, countFrame_mode, hm]
  all_goals first
    | exact .offered _ fun h => by rw [hm]; exact frameEvent_wellFormed s _ _ wf h
    | exact .offered _ fun _ => by simp [Event.wellFormed, State.buildFrame, wf.2, hm]
    | exact .absorbed rfl
    | exact .ended rfl
    | exact .rejected _ rfl

/-- exec never stops: every operation of the table answers a next state. -/
theorem exec_next (i : Instr) (s : State) : ∃ t, exec i s = .next t := by
  cases i <;> exact ⟨_, rfl⟩

/-- Every header word decodes to a frame operation (R77, R89). -/
theorem frameType_decodeW0 (w : Word) : ∃ p, frameType (decodeW0 w) = some p := by
  unfold decodeW0
  dsimp only
  split_ifs <;> exact ⟨_, rfl⟩

/-- The operation run for a latched header is a frame operation, of the type the header's code resolves to (R77, R125). -/
theorem frameType_frameInstr (s : State) (h : s.typeRaw.toNat < 2 ^ 24) :
    frameType s.frameInstr = some (resolve s.typeRaw) := by
  have e : (s.typeRaw.setWidth 24).setWidth 32 = s.typeRaw := by
    apply BitVec.eq_of_toNat_eq
    simp only [BitVec.toNat_setWidth]; omega
  simp only [State.frameInstr, State.latchedW0, decodeW0, encodeW0_masked, encodeW0_type, e, resolve]
  split_ifs <;> simp [frameType, e]

/-- Resolving a code and taking the type's code are inverse (R125). -/
theorem code_resolve (t : Word) : (resolve t).code = t := by
  unfold resolve
  split_ifs <;> simp_all [PType.code]

/-! ### The checks -/

/-- CRC_CHECK goes on or raises, by the comparison (R105). -/
theorem crcCheck_eq (declared : Word) (wh : ErrWhere) (s : State)
    (k : State → Host.Outcome State Fault Refusal) :
    (crcFinal s.crc = declared ∧ crcCheck declared wh s k = k s) ∨
    (crcFinal s.crc ≠ declared ∧
      crcCheck declared wh s k = .next (raise .checksum wh declared (crcFinal s.crc) s)) := by
  unfold crcCheck
  by_cases h : crcFinal s.crc = declared
  · exact .inl ⟨h, by rw [if_pos h]⟩
  · exact .inr ⟨h, by rw [if_neg h]⟩

/-! ### The invariant and the agents around the block -/

/-- The invariant says nothing of the history, the stream and the moves to come. -/
theorem inv_agents {s : State} (I : s.Inv) (history : List Obs) (stream : Supply Byte) (ends : Bool)
    (inputs : Supply Input) :
    ({ s with history := history, stream := stream, streamEnds := ends, inputs := inputs } : State).Inv where
  index := I.index
  pending := I.pending
  closed := I.closed
  errClass := I.errClass
  errDetail := I.errDetail
  typeCode := I.typeCode
  headerCrc := I.headerCrc
  header h := ⟨(I.header h).version, (I.header h).typeRaw, (I.header h).plen, (I.header h).hcrc, (I.header h).verified⟩
  payload := I.payload
  wholeBody := I.wholeBody
  bodyCrc := I.bodyCrc
  validated := I.validated
  endSeen := I.endSeen
  event := I.event
  withdrawn := I.withdrawn

/-! ### SRC's answer, by phase -/

theorem takeSrcAnswer_header {s : State} (hp : s.phase = .hdr) (hi : s.idx.toNat ≤ 11) (ans : SrcAnswer) :
    takeSrcAnswer ans s = match ans with
      | .byte b => headerByte b s
      | .eos => .next (headerEos s) := by
  have : s.indexInField = true := by simpa [State.indexInField, hp] using hi
  cases ans <;> simp [takeSrcAnswer, this, takeByte, takeEos, hp]

theorem takeSrcAnswer_payload {s : State} (hp : s.phase = .pay) (hi : s.idx.toNat < s.plen.toNat) (ans : SrcAnswer) :
    takeSrcAnswer ans s = match ans with
      | .byte b => .next (payloadByte b s)
      | .eos => .next (payloadEos s) := by
  have : s.indexInField = true := by simpa [State.indexInField, hp] using hi
  cases ans <;> simp [takeSrcAnswer, this, takeByte, takeEos, hp]

theorem takeSrcAnswer_checksum {s : State} (hp : s.phase = .pcrc) (hi : s.idx.toNat ≤ 3) (ans : SrcAnswer) :
    takeSrcAnswer ans s = match ans with
      | .byte b => checksumByte b s
      | .eos => .next (checksumEos s) := by
  have : s.indexInField = true := by simpa [State.indexInField, hp] using hi
  cases ans <;> simp [takeSrcAnswer, this, takeByte, takeEos, hp]

/-! ### Supplies -/

/-- A supply gives two lists, one after the other, exactly when it gives them joined. -/
theorem gives_append {α : Type} {draw : Nat → Nat → α} {xs ys : List α} {u w : Supply α} :
    Supply.Gives draw (xs ++ ys) u w ↔ ∃ v, Supply.Gives draw xs u v ∧ Supply.Gives draw ys v w := by
  induction xs generalizing u with
  | nil => exact ⟨fun h => ⟨u, rfl, h⟩, fun ⟨_, rfl, h⟩ => h⟩
  | cons a xs ih =>
    constructor
    · rintro ⟨v, hv, h⟩
      obtain ⟨x, h1, h2⟩ := ih.1 h
      exact ⟨x, ⟨v, hv, h1⟩, h2⟩
    · rintro ⟨x, ⟨v, hv, h1⟩, h2⟩
      exact ⟨v, hv, ih.2 ⟨x, h1, h2⟩⟩

/-- The written items of a supply are given first, in order (R52). -/
theorem gives_ready {α : Type} (draw : Nat → Nat → α) (items rest : List α) (t : Tail α) :
    Supply.Gives draw items ⟨items ++ rest, t⟩ ⟨rest, t⟩ := by
  induction items with
  | nil => rfl
  | cons a items ih => exact ⟨_, next_ready draw a (items ++ rest) t, ih⟩

/-! ### The step -/

/-- With no move to come the machine waits (R220). -/
theorem step_waits {s : State} (h : s.nextMove = none) : step s = .next s := by simp only [step, h]

/-- The next move is made (R13). -/
theorem step_moves {s : State} {i : Input} {rest : Supply Input} (h : s.nextMove = some (i, rest)) :
    step s = move i { s with inputs := rest } := by simp only [step, h]

/-- SRC's turn while BLOCK reads and the stream has a byte (R51). -/
theorem srcMove_byte {s : State} {b : Byte} {bytes : Supply Byte} (hr : s.phase.reads = true)
    (h : s.nextByte = some (b, bytes)) :
    srcMove s = takeSrcAnswer (.byte b) ({ s with stream := bytes }.observe (.read (.byte b))) := by
  simp only [srcMove, hr, if_true, h]

/-- SRC's turn while BLOCK reads and the stream has no byte: EOS at its end, else no answer (R51, R88). -/
theorem srcMove_noByte {s : State} (hr : s.phase.reads = true) (h : s.nextByte = none) :
    srcMove s = if s.streamEnds then takeSrcAnswer .eos (s.observe (.read .eos)) else .next s := by
  simp only [srcMove, hr, if_true, h]

/-- SRC's byte reaches BLOCK while it reads (R51). -/
theorem step_byte {s : State} {b : Byte} {bytes : Supply Byte} {rest : Supply Input} (hr : s.phase.reads = true)
    (h : s.byteComes b bytes rest) : step s = takeSrcAnswer (.byte b) (s.givenByte b bytes rest) :=
  (step_moves h.1).trans (srcMove_byte (s := { s with inputs := rest }) hr h.2)

/-- SRC's EOS reaches BLOCK while it reads (R51). -/
theorem step_eos {s : State} {rest : Supply Input} (hr : s.phase.reads = true) (h : s.eosComes rest) :
    step s = takeSrcAnswer .eos (s.givenEos rest) :=
  (step_moves h.1).trans ((srcMove_noByte (s := { s with inputs := rest }) hr h.2.1).trans (if_pos h.2.2))

/-- SNK's answer reaches BLOCK in EMIT (R54). -/
theorem step_ack {s : State} {a : Ack} {ev : Event} {rest : Supply Input} (hp : s.phase = .emit)
    (hev : s.pending = some ev) (h : s.nextMove = some (.snk a, rest)) :
    step s = .next (takeAck a { s with inputs := rest, history := s.history ++ [.put ev a] }) := by
  rw [step_moves h]
  simp only [move, snkMove, hp, if_true, hev]
  rfl

/-- A host write to CTRL runs its command (R180). -/
theorem step_ctrl {s : State} {v : Word} {rest : Supply Input} (h : s.nextMove = some (.regWrite 0x00 32 v, rest)) :
    step s = exec (decodeCtrl v) { s with inputs := rest, history := s.history ++ [.regW 0x00 v] } := by
  rw [step_moves h]
  rfl

/-- Reset acts in any state (R230). -/
theorem step_reset {s : State} {rest : Supply Input} (h : s.nextMove = some (.reset, rest)) :
    step s = .next (resetBlock { s with inputs := rest }) := by
  rw [step_moves h]
  rfl

end Sys2Proof.Machine
end

