-- ==== Sys2Proof/Laws/PerInstr.lean ====
section
/-! SUPPORT. The per-instruction family RowMatch: an instruction's word matches its own row of the opcode table, and the
row of another named type or another command does not match it (R77, R81). -/

namespace Sys2Proof.Laws

/-- The rows that a word of the format is matched against before the default row (R77, R81). -/
def listedRows : Format → List TableRow
  | .frameHdrW0 => [⟨.frameHdrW0, 0x00FFFFFF#32, 0x00800001#32⟩, ⟨.frameHdrW0, 0x00FFFFFF#32, 0x00800002#32⟩,
      ⟨.frameHdrW0, 0x00FFFFFF#32, 0x00800003#32⟩, ⟨.frameHdrW0, 0x00FFFFFF#32, 0x00800004#32⟩,
      ⟨.frameHdrW0, 0x00FFFFFF#32, 0x00800005#32⟩]
  | .ctrlWrite => [⟨.ctrlWrite, 0x00000003#32, 0x00000001#32⟩, ⟨.ctrlWrite, 0x00000002#32, 0x00000002#32⟩,
      ⟨.ctrlWrite, 0x00000003#32, 0x00000000#32⟩]

/-- The row matches the word. -/
def matchesRow (w : Word) (r : TableRow) : Prop := w &&& r.mask = r.pattern

namespace RowMatch

/-- A well-formed instruction's word matches its row, and of the listed rows no other. -/
def Statement (i : Instr) : Prop :=
  i.wellFormed = true → matchesRow i.word i.tableRow ∧
    ∀ r ∈ listedRows i.tableRow.format, matchesRow i.word r → r = i.tableRow

end RowMatch

/-- A frame of a named code matches the row of that code and no other. -/
theorem named_row (v : Byte) (t : Code) {n : Word} (hn : t.setWidth 32 = n)
    (hm : n ∈ [0x00800001#32, 0x00800002#32, 0x00800003#32, 0x00800004#32, 0x00800005#32]) :
    matchesRow (encodeW0 v t) ⟨.frameHdrW0, 0x00FFFFFF#32, n⟩ ∧
      ∀ r ∈ listedRows .frameHdrW0, matchesRow (encodeW0 v t) r → r = ⟨.frameHdrW0, 0x00FFFFFF#32, n⟩ := by
  simp only [matchesRow, listedRows, encodeW0_masked, hn, true_and, List.forall_mem_cons, List.not_mem_nil,
    IsEmpty.forall_iff, implies_true, and_true]
  simp only [List.mem_cons, List.not_mem_nil, or_false] at hm
  rcases hm with rfl | rfl | rfl | rfl | rfl <;> decide

/-- The two command bits of a CTRL value, taken by the mask 3 (R81). -/
theorem ctrl_low (r : BitVec 29) (m : Mode) (a st : Bool) :
    encodeCtrl r m a st &&& 0x00000003#32 = (BitVec.ofBool a ++ BitVec.ofBool st).setWidth 32 := by
  have h3 : (0x00000003#32 : Word).toNat = 2 ^ 2 - 1 := rfl
  apply BitVec.eq_of_toNat_eq
  rw [BitVec.toNat_and, h3, Nat.and_two_pow_sub_one_eq_mod, encodeCtrl_toNat]
  cases m <;> cases a <;> cases st <;> simp [Mode.bit] <;> omega

/-- The ABORT bit of a CTRL value, taken by the mask 2 (R81). -/
theorem ctrl_abort (r : BitVec 29) (m : Mode) (a st : Bool) :
    encodeCtrl r m a st &&& 0x00000002#32 = (BitVec.ofBool a ++ 0#1).setWidth 32 := by
  have h : (0x00000002#32 : Word) = 0x00000003#32 &&& 0x00000002#32 := rfl
  rw [h, ← BitVec.and_assoc, ctrl_low]
  cases a <;> cases st <;> rfl

/-- A CTRL value matches the row of its command and no other. -/
theorem ctrl_row (r : BitVec 29) (m : Mode) (a st : Bool) {row : TableRow}
    (hr : row = if a then ⟨.ctrlWrite, 0x00000002#32, 0x00000002#32⟩
      else if st then ⟨.ctrlWrite, 0x00000003#32, 0x00000001#32⟩ else ⟨.ctrlWrite, 0x00000003#32, 0x00000000#32⟩) :
    matchesRow (encodeCtrl r m a st) row ∧
      ∀ q ∈ listedRows .ctrlWrite, matchesRow (encodeCtrl r m a st) q → q = row := by
  subst hr
  cases a <;> cases st <;>
    simp only [matchesRow, listedRows, ctrl_low, ctrl_abort, List.forall_mem_cons, List.not_mem_nil,
      IsEmpty.forall_iff, implies_true, and_true, if_true, Bool.false_eq_true, if_false] <;> decide

namespace RowMatch

theorem frameRecord (v : Byte) : Statement (.frameRecord v) := fun _ => named_row v _ rfl (by decide)

theorem frameException (v : Byte) : Statement (.frameException v) := fun _ => named_row v _ rfl (by decide)

theorem frameStats (v : Byte) : Statement (.frameStats v) := fun _ => named_row v _ rfl (by decide)

theorem frameContinuation (v : Byte) : Statement (.frameContinuation v) := fun _ => named_row v _ rfl (by decide)

theorem frameEnd (v : Byte) : Statement (.frameEnd v) := fun _ => named_row v _ rfl (by decide)

theorem frameUnknown (v : Byte) (t : Code) : Statement (.frameUnknown v t) := by
  intro h
  have hn (n : Word) (hlo : 8388609 ≤ n.toNat) (hhi : n.toNat ≤ 8388613) : t.setWidth 32 ≠ n := by
    rintro rfl
    simp only [Instr.wellFormed, codeIsNamed, Bool.not_eq_true', Bool.and_eq_false_iff, decide_eq_false_iff_not] at h
    simp only [BitVec.toNat_setWidth] at hlo hhi
    omega
  refine ⟨by simp [matchesRow, Instr.tableRow], ?_⟩
  simp only [matchesRow, listedRows, Instr.tableRow, Instr.word, encodeW0_masked, List.forall_mem_cons,
    List.not_mem_nil, IsEmpty.forall_iff, implies_true, and_true]
  refine ⟨?_, ?_, ?_, ?_, ?_⟩ <;> exact fun e => absurd e (hn _ (by decide) (by decide))

theorem cmdStart (m : Mode) (r : BitVec 29) : Statement (.cmdStart m r) := fun _ => ctrl_row r m false true rfl

theorem cmdAbort (st : Bool) (m : Mode) (r : BitVec 29) : Statement (.cmdAbort st m r) :=
  fun _ => ctrl_row r m true st rfl

theorem cmdNop (m : Mode) (r : BitVec 29) : Statement (.cmdNop m r) := fun _ => ctrl_row r m false false rfl

end RowMatch

end Sys2Proof.Laws
end

