-- ==== Sys2Proof/Laws/Step.lean ====
section
/-! SUPPORT. Everything one step can do, said once: what a command leaves, what BLOCK does on SRC's answer, and the step
itself, by the move it makes. -/

namespace Sys2Proof.Machine

/-! ### Commands -/

/-- What a command leaves of the state it runs in, after its write of ctrl_mode (R180 to R184). -/
inductive CommandEffect (m : Mode) (i : Instr) (s : State) : State → Prop where
  | started (r : BitVec 29) (hi : i = .cmdStart m r) (hp : s.phase.busy = false) :
      CommandEffect m i s (beginSession (writeMode m s))
  | cancelled (st : Bool) (r : BitVec 29) (hi : i = .cmdAbort st m r) (hp : s.phase.busy = true) :
      CommandEffect m i s (cancelSession (writeMode m s))
  | wrote (hi : ∀ r, i = .cmdStart m r → s.phase.busy = true)
      (ha : ∀ st r, i = .cmdAbort st m r → s.phase.busy = false) : CommandEffect m i s (writeMode m s)

/-- A value written to CTRL runs a command, with one of these effects (R81, R180). -/
theorem exec_command (v : Word) (s : State) :
    ∃ t, exec (decodeCtrl v) s = .next t ∧ CommandEffect (Mode.ofBit (v.getLsbD 2)) (decodeCtrl v) s t := by
  unfold decodeCtrl
  dsimp only
  split_ifs with ha hs
  · refine ⟨_, rfl, ?_⟩
    split_ifs with hb
    · exact .cancelled _ _ rfl hb
    · exact .wrote (by simp) (by simpa using hb)
  · refine ⟨_, rfl, ?_⟩
    split_ifs with hb
    · exact .wrote (fun _ _ => hb) (by simp)
    · exact .started _ rfl (by simpa using hb)
  · exact ⟨_, rfl, .wrote (by simp) (by simp)⟩

/-! ### SRC's answer -/

/-- u is s but for the fields a frame is read into: the phase, idx, the CRC register and the per-frame fields (R43). -/
def State.RewritesFrame (s u : State) : Prop :=
  u = { s with
    phase := u.phase, idx := u.idx, hbuf := u.hbuf, version := u.version, typeRaw := u.typeRaw, ptype := u.ptype,
    plen := u.plen, hcrc := u.hcrc, crc := u.crc, pbuf := u.pbuf, pcbuf := u.pcbuf, pcrc := u.pcrc }

/-- The latched type code is a 24-bit one and the symbolic type its resolution (R22, R125). -/
def State.TypeHeld (s : State) : Prop := s.typeRaw.toNat < 2 ^ 24 ∧ s.ptype = resolve s.typeRaw

/-- What BLOCK does on SRC's answer: it reads on, ends the session at a clean EOS, raises one of the three classes a
read can raise, or completes a frame (R120 to R129, R140 to R145). -/
inductive AnswerEffect (s : State) : State → Prop where
  | readsOn {u : State} (hu : s.RewritesFrame u) (hr : u.phase.reads = true) : AnswerEffect s u
  | ended (hp : s.phase = .hdr) (hi : s.idx = 0#32) : AnswerEffect s (finishOk s)
  | raised {u : State} (hu : s.RewritesFrame u) (cls : ErrClass) (wh : ErrWhere) (info crc : Word)
      (hc : cls = .checksum ∨ cls = .malformed ∨ cls = .capacity) : AnswerEffect s (raise cls wh info crc u)
  | completed {u t : State} (hu : s.RewritesFrame u) (p : PType) (hp : s.TypeHeld → u.ptype = p)
      (ht : FrameEffect p u t) : AnswerEffect s t

/-- A frame operation run on a latched header completes the frame. -/
theorem completes {s u t : State} (hu : s.RewritesFrame u) (hc : s.TypeHeld → u.TypeHeld)
    (e : exec u.frameInstr u = .next t) : AnswerEffect s t := by
  obtain ⟨p, hp⟩ := frameType_decodeW0 u.latchedW0
  obtain ⟨t', e', fx⟩ := exec_frame _ p hp u
  obtain rfl : t' = t := by simpa [State.frameInstr, e'] using e
  refine .completed hu p (fun h => ?_) fx
  have := frameType_frameInstr u (hc h).1
  rw [State.frameInstr, hp, Option.some.injEq] at this
  rw [this, (hc h).2]

theorem headerByte_effect {s t : State} {b : Byte} (hp : s.phase = .hdr) (e : headerByte b s = .next t) :
    AnswerEffect s t := by
  unfold headerByte at e
  split at e
  · obtain rfl : _ = t := by simpa using e
    exact .readsOn rfl (by simp [hp, Phase.reads])
  · unfold headerComplete at e
    have hu : s.RewritesFrame (latchHeader (storeHeaderByte b s)) := rfl
    have hc : (latchHeader (storeHeaderByte b s)).TypeHeld := ⟨headerType_lt _, rfl⟩
    generalize latchHeader (storeHeaderByte b s) = u at *
    obtain ⟨-, e'⟩ | ⟨-, e'⟩ := crcCheck_eq u.hcrc .header u afterHeaderCheck
    · rw [e'] at e
      unfold afterHeaderCheck at e
      split at e
      · exact completes hu (fun _ => hc) e
      · split at e
        · obtain rfl : _ = t := by simpa using e
          exact .raised hu _ _ _ _ (.inr (.inr rfl))
        · obtain rfl : _ = t := by simpa using e
          refine .readsOn ?_ (by simp [Phase.reads])
          rw [State.RewritesFrame] at hu ⊢
          rw [hu]; rfl
    · rw [e'] at e
      obtain rfl : _ = t := by simpa using e
      exact .raised hu _ _ _ _ (.inl rfl)

theorem payloadByte_effect {s : State} (b : Byte) (hp : s.phase = .pay) : AnswerEffect s (payloadByte b s) := by
  unfold payloadByte
  dsimp only
  split
  · exact .readsOn rfl (by simp [crcUpdate, hp, Phase.reads])
  · exact .readsOn rfl (by simp [Phase.reads])

theorem checksumByte_effect {s t : State} {b : Byte} (hp : s.phase = .pcrc)
    (e : checksumByte b s = .next t) : AnswerEffect s t := by
  unfold checksumByte at e
  split at e
  · obtain rfl : _ = t := by simpa using e
    exact .readsOn rfl (by simp [hp, Phase.reads])
  · unfold payloadCheck at e
    have hu : s.RewritesFrame (latchChecksum (storeChecksumByte b s)) := rfl
    have hc : s.TypeHeld → (latchChecksum (storeChecksumByte b s)).TypeHeld := id
    generalize latchChecksum (storeChecksumByte b s) = u at *
    obtain ⟨-, e'⟩ | ⟨-, e'⟩ := crcCheck_eq u.pcrc .payload u (fun checked => exec checked.frameInstr checked)
    · rw [e'] at e
      exact completes hu hc e
    · rw [e'] at e
      obtain rfl : _ = t := by simpa using e
      exact .raised hu _ _ _ _ (.inl rfl)

/-- Everything BLOCK can do on SRC's answer. -/
theorem takeSrcAnswer_effect {s t : State} {a : SrcAnswer} (e : takeSrcAnswer a s = .next t) :
    s.phase.reads = true ∧ AnswerEffect s t := by
  unfold takeSrcAnswer at e
  split at e
  · cases a with
    | byte b =>
      simp only [takeByte] at e
      split at e
      · exact ⟨by simp [*, Phase.reads], headerByte_effect ‹_› e⟩
      · obtain rfl : _ = t := by simpa using e
        exact ⟨by simp [*, Phase.reads], payloadByte_effect b ‹_›⟩
      · exact ⟨by simp [*, Phase.reads], checksumByte_effect ‹_› e⟩
      all_goals cases e
    | eos =>
      simp only [takeEos] at e
      split at e
      · obtain rfl : _ = t := by simpa using e
        refine ⟨by simp [*, Phase.reads], ?_⟩
        unfold headerEos
        split
        · exact .ended ‹_› ‹_›
        · exact .raised (u := s) rfl _ _ _ _ (.inr (.inl rfl))
      · obtain rfl : _ = t := by simpa using e
        exact ⟨by simp [*, Phase.reads], .raised (u := s) rfl _ _ _ _ (.inr (.inl rfl))⟩
      · obtain rfl : _ = t := by simpa using e
        exact ⟨by simp [*, Phase.reads], .raised (u := s) rfl _ _ _ _ (.inr (.inl rfl))⟩
      all_goals cases e
  · cases e

/-! ### The step -/

/-- What a step that goes on does, by the move it makes. -/
inductive StepEffect (s : State) : State → Prop where
  | waits (h : s.nextMove = none) : StepEffect s s
  | srcWaits (rest : Supply Input) (h : s.nextMove = some (.src, rest)) (hs : s.nextByte = none) :
      StepEffect s { s with inputs := rest }
  | gaveByte {b : Byte} {bytes : Supply Byte} {rest : Supply Input} {t : State} (hr : s.phase.reads = true)
      (h : s.byteComes b bytes rest) (e : takeSrcAnswer (.byte b) (s.givenByte b bytes rest) = .next t) :
      StepEffect s t
  | gaveEos {rest : Supply Input} {t : State} (hr : s.phase.reads = true) (h : s.eosComes rest)
      (e : takeSrcAnswer .eos (s.givenEos rest) = .next t) : StepEffect s t
  | late (i : Input) (rest : Supply Input) (h : s.nextMove = some (i, rest))
      (hi : (i = .src ∧ s.phase.reads = false) ∨ ((∃ a, i = .snk a) ∧ s.phase ≠ .emit)) :
      StepEffect s { s with inputs := rest, withdrawn := none }
  | acked (a : Ack) (ev : Event) (rest : Supply Input) (h : s.nextMove = some (.snk a, rest)) (hp : s.phase = .emit)
      (hev : s.pending = some ev) :
      StepEffect s (takeAck a { s with inputs := rest, history := s.history ++ [.put ev a] })
  | command (v : Word) (rest : Supply Input) {t : State} (h : s.nextMove = some (.regWrite 0x00 32 v, rest))
      (e : CommandEffect (Mode.ofBit (v.getLsbD 2)) (decodeCtrl v)
        { s with inputs := rest, history := s.history ++ [.regW 0x00 v] } t) : StepEffect s t
  | accessed (i : Input) (rest : Supply Input) (o : Obs) (h : s.nextMove = some (i, rest))
      (hi : (∃ off w, i = .regRead off w) ∨ ∃ off w v, i = .regWrite off w v ∧ off ≠ 0x00)
      (ho : ∃ off v, o = .regR off v ∨ o = .regW off v) :
      StepEffect s { s with inputs := rest, history := s.history ++ [o] }
  | wasReset (rest : Supply Input) (h : s.nextMove = some (.reset, rest)) : StepEffect s (resetBlock { s with inputs := rest })
  | connected (bytes : Supply Byte) (ends : Bool) (rest : Supply Input) (h : s.nextMove = some (.connect bytes ends, rest))
      (hp : s.phase.busy = false) : StepEffect s { s with inputs := rest, stream := bytes, streamEnds := ends }

theorem accessDefined_iff (off width : Nat) :
    accessDefined off width = true ↔ width = 32 ∧ off ∈ [0x00, 0x04, 0x08, 0x0C, 0x10] := by
  simp only [accessDefined, Bool.and_eq_true, Bool.or_eq_true, beq_iff_eq, List.mem_cons, List.not_mem_nil, or_false,
    or_assoc]

/-- Everything a step that goes on can do (R20, R21). -/
theorem step_effect {s t : State} (e : step s = .next t) : StepEffect s t := by
  cases h : s.nextMove with
  | none =>
    rw [step_waits h] at e
    obtain rfl : s = t := by simpa using e
    exact .waits h
  | some next =>
    obtain ⟨i, rest⟩ := next
    rw [step_moves h] at e
    cases i with
    | src =>
      by_cases hr : s.phase.reads = true
      · cases hs : s.nextByte with
        | some given =>
          obtain ⟨b, bytes⟩ := given
          rw [← step_moves h, step_byte hr ⟨h, hs⟩] at e
          exact .gaveByte hr ⟨h, hs⟩ e
        | none =>
          by_cases hn : s.streamEnds = true
          · rw [← step_moves h, step_eos hr ⟨h, hs, hn⟩] at e
            exact .gaveEos hr ⟨h, hs, hn⟩ e
          · rw [move, srcMove_noByte (s := { s with inputs := rest }) hr hs, if_neg hn] at e
            obtain rfl : _ = t := by simpa using e
            exact .srcWaits rest h hs
      · simp only [move, srcMove, hr, Bool.false_eq_true, if_false, lateAnswer] at e
        split at e
        · obtain rfl : _ = t := by simpa using e
          exact .late _ rest h (.inl ⟨rfl, by simpa using hr⟩)
        · cases e
    | snk a =>
      by_cases hp : s.phase = .emit
      · cases hev : s.pending with
        | some ev =>
          rw [← step_moves h, step_ack hp hev h] at e
          obtain rfl : _ = t := by simpa using e
          exact .acked a ev rest h hp hev
        | none =>
          simp only [move, snkMove, hp, if_true, hev] at e
          cases e
      · simp only [move, snkMove, hp, if_false, lateAnswer] at e
        split at e
        · obtain rfl : _ = t := by simpa using e
          exact .late _ rest h (.inr ⟨⟨a, rfl⟩, hp⟩)
        · cases e
    | regWrite off w v =>
      simp only [move, hostWrite] at e
      split at e
      · rename_i hd
        split at e
        · rename_i h0
          obtain ⟨rfl, -⟩ := (accessDefined_iff _ _).1 hd
          subst h0
          obtain ⟨t', e', fx⟩ := exec_command v ({ s with inputs := rest }.observe (.regW 0x00 v))
          obtain rfl : t' = t := by simpa [e'] using e
          exact .command v rest h fx
        · rename_i h0
          obtain rfl : _ = t := by simpa using e
          exact .accessed _ rest _ h (.inr ⟨off, w, v, rfl, h0⟩) ⟨off, v, .inr rfl⟩
      · cases e
    | regRead off w =>
      simp only [move, hostRead] at e
      split at e
      · split at e
        · obtain rfl : _ = t := by simpa using e
          exact .accessed _ rest _ h (.inl ⟨off, w, rfl⟩) ⟨off, _, .inl rfl⟩
        · cases e
      · cases e
    | reset =>
      obtain rfl : _ = t := by simpa [move] using e
      exact .wasReset rest h
    | connect bytes ends =>
      simp only [move, connectStream] at e
      split at e
      · cases e
      · obtain rfl : _ = t := by simpa using e
        exact .connected bytes ends rest h (by rename_i hb; simpa using hb)

/-! ### Runs -/

/-- A run of j + k steps is a run of k steps from where a run of j steps has led. -/
theorem run_add {s t : State} {j : Nat} (k : Nat) (h : Host.Core.run core j s = .next t) :
    Host.Core.run core (j + k) s = Host.Core.run core k t := by
  induction j generalizing s with
  | zero =>
    obtain rfl : s = t := Host.Outcome.next.inj h
    rw [Nat.zero_add]
  | succ j ih =>
    rw [show j + 1 + k = j + k + 1 by omega]
    simp only [Host.Core.run] at h ⊢
    split at h
    · exact ih h
    · cases h
    · cases h

end Sys2Proof.Machine
end

