-- ==== Sys2Proof/Tests/Slice0.lean ====
section
/-! SUPPORT. The model's own tests: expected values come from the spec's encodings and from 95_test_vectors.md (H, V, K, Z
and the check values of R110), each about one word or one step; and for each statement that has hypotheses a named
theorem with states and operands that meet them. -/

namespace Sys2Proof.Tests

open Sys2Proof.Machine

set_option maxRecDepth 20000

/-! ### Small states -/

/-- The header of V29: record, L = 9 (H1's layout). -/
def recordHeader : Vector Byte 12 := #v[0x00, 0x80, 0x00, 0x01, 0x00, 0x00, 0x00, 0x09, 0xA9, 0x88, 0xA4, 0x8F]

/-- The body of V29. -/
def recordBody : List Byte := [0x01, 0x02, 0x03, 0x04, 0x05, 0x06, 0x07, 0x08, 0x41]

/-- The header H1: record, L = 0. -/
def emptyRecordHeader : Vector Byte 12 := #v[0x00, 0x80, 0x00, 0x01, 0x00, 0x00, 0x00, 0x00, 0xD0, 0x54, 0x1C, 0x2B]

/-- The header H14: record, L = 17. -/
def longHeader : Vector Byte 12 := #v[0x00, 0x80, 0x00, 0x01, 0x00, 0x00, 0x00, 0x11, 0xBA, 0xE4, 0x3C, 0xD9]

/-- A session in which n bytes of a header have been answered; the other bytes of the buffer are stale. -/
def inHeader (m : Mode) (n : Nat) (h : Vector Byte 12) : State :=
  { State.reset with
    phase := .hdr
    mode  := m
    idx   := BitVec.ofNat 32 n
    hbuf  := h
    crc   := crcRegister (h.toList.take (min n 8)) }

/-- The header fields latched. -/
def latched (m : Mode) (h : Vector Byte 12) : State := latchHeader (inHeader m 12 h)

/-- A session in which a header and n bytes of a body have been answered. -/
def inBody (m : Mode) (n : Nat) (h : Vector Byte 12) (body : List Byte) : State :=
  { latched m h with
    phase := .pay
    idx   := BitVec.ofNat 32 n
    pbuf  := body.take n
    crc   := crcRegister (body.take n) }

/-- A session in which a header, a body and n checksum bytes have been answered. -/
def inChecksum (m : Mode) (n : Nat) (h : Vector Byte 12) (body : List Byte) (p : Vector Byte 4) : State :=
  { latched m h with
    phase := .pcrc
    idx   := BitVec.ofNat 32 n
    pbuf  := body
    pcbuf := p
    crc   := crcRegister body }

/-- A finite supply. -/
abbrev only {α : Type} (items : List α) : Supply α := ⟨items, .stops⟩

/-- The one move to come. -/
def moving (i : Input) (s : State) : State := { s with inputs := only [i] }

/-- SRC answers byte b next. -/
def given (b : Byte) (s : State) : State := moving .src { s with stream := only [b] }

/-- SRC answers EOS next. -/
def ended (s : State) : State := moving .src { s with stream := only [], streamEnds := true }

/-- HOST writes v to CTRL next. -/
def written (v : Word) (s : State) : State := moving (.regWrite 0x00 32 v) s

/-- The record frame of V29 before its last checksum byte. -/
def recordAtEnd (m : Mode) : State := inChecksum m 3 recordHeader recordBody #v[0x38, 0xE8, 0x62, 0x00]

/-- What holds of the next state of a step, where there is one. -/
def after (s : State) (p : State → Bool) : Bool :=
  match step s with
  | .next t => p t
  | .fault _ => false
  | .refused _ => false

/-- A test by after shows a next state. -/
theorem next_of_after {s : State} {p : State → Bool} (h : after s p = true) : ∃ t, step s = .next t ∧ p t = true := by
  unfold after at h
  split at h
  · exact ⟨_, by assumption, h⟩
  · cases h
  · cases h

/-- The event pending in EMIT after RECORDS of V29. -/
def offering : State :=
  { recordAtEnd .dispatch with
    phase := .emit, idx := 0#32, frameCount := 1#32, pending := some (.records (some [0x41])), pcrc := 0x38E8623C#32 }

/-- An END frame (V32) offered in DECODE. -/
def offeringEnd : State :=
  let s := latched .decode #v[0x00, 0x80, 0x00, 0x05, 0x00, 0x00, 0x00, 0x00, 0x25, 0xD4, 0xBA, 0xEB]
  { s with
    phase := .emit, idx := 0#32, frameCount := 1#32, endSeen := true, crc := 0#32
    pending := some (.frame ⟨0x00#8, 0x800005#32, .endMark, 0#32, 0x25D4BAEB#32, none, none, none⟩) }

/-! ### Well-formedness -/

theorem test_wellFormed_refuses_named_code : (Instr.frameUnknown 0x00#8 0x800001#24).wellFormed = false := by decide

theorem test_wellFormed_edges :
    (Instr.frameUnknown 0x00#8 0x800005#24).wellFormed = false ∧
    (Instr.frameUnknown 0x00#8 0x800000#24).wellFormed = true ∧
    (Instr.frameUnknown 0xFF#8 0x800006#24).wellFormed = true := by decide

/-! ### Decoding: words written out from the spec's encodings (R72, R77, R37, R81; H1 to H11, K2 to K12) -/

theorem test_decode_record : decode? (.header [0x07, 0x80, 0x00, 0x01, 0x55]) = some (.frameRecord 0x07#8) := by decide
theorem test_decode_exception : decode? (.header [0x00, 0x80, 0x00, 0x02]) = some (.frameException 0x00#8) := by decide
theorem test_decode_stats : decode? (.header [0x00, 0x80, 0x00, 0x03]) = some (.frameStats 0x00#8) := by decide
theorem test_decode_continuation :
    decode? (.header [0x00, 0x80, 0x00, 0x04]) = some (.frameContinuation 0x00#8) := by decide
theorem test_decode_end : decode? (.header [0xFF, 0x80, 0x00, 0x05]) = some (.frameEnd 0xFF#8) := by decide
theorem test_decode_unknown :
    decode? (.header [0x00, 0x80, 0x00, 0x06]) = some (.frameUnknown 0x00#8 0x800006#24) ∧
    decode? (.header [0x00, 0x00, 0x00, 0x01]) = some (.frameUnknown 0x00#8 0x000001#24) := by decide
theorem test_decode_start : decode? (.ctrl 0b101#32) = some (.cmdStart .dispatch 0#29) := by decide
theorem test_decode_abort :
    decode? (.ctrl 0b011#32) = some (.cmdAbort true .decode 0#29) ∧
    decode? (.ctrl 0b110#32) = some (.cmdAbort false .dispatch 0#29) := by decide
theorem test_decode_nop : decode? (.ctrl 0xFFFFFFFC#32) = some (.cmdNop .dispatch 0x1FFFFFFF#29) := by decide
theorem test_decode_short_header : decode (.header [0x00, 0x80, 0x00]) = .error (.shortHeader 3) := by decide

theorem test_table_words :
    decodeTableWord 24 0x800001 = some (.frameRecord 0x00#8) ∧ decodeTableWord 24 0x800005 = some (.frameEnd 0x00#8) ∧
    decodeTableWord 32 0x00FFFFFF = some (.frameUnknown 0x00#8 0xFFFFFF#24) ∧
    decodeTableWord 8 1 = some (.cmdStart .decode 0#29) ∧ decodeTableWord 8 2 = some (.cmdAbort false .decode 0#29) ∧
    decodeTableWord 8 0 = some (.cmdNop .decode 0#29) ∧ decodeTableWord 40 0 = none := by decide

/-! ### CRC check values (R110, 95_test_vectors.md section 2.1) -/

theorem test_crc_digits : crc32 [0x31, 0x32, 0x33, 0x34, 0x35, 0x36, 0x37, 0x38, 0x39] = 0xCBF43926#32 := by decide
theorem test_crc_hello : crc32 [0x68, 0x65, 0x6C, 0x6C, 0x6F] = 0x3610A686#32 ∧ crc32 [] = 0x00000000#32 := by decide
theorem test_crc_zero : crc32 [0x00] = 0xD202EF8D#32 ∧ crcRegister [0x00] = 0x2DFD1072#32 := by decide

/-- H12: the header of a frame and its checksum (R87). -/
theorem test_header_bytes : headerBytes 0x00#8 0x800001#24 0x0000000D#32 =
    [0x00, 0x80, 0x00, 0x01, 0x00, 0x00, 0x00, 0x0D, 0xAE, 0xE5, 0x60, 0x96] := by decide

/-! ### The frame operations, one step each: the last byte of the vector -/

/-- V29: RECORDS with the 8 offset bytes stripped. -/
theorem test_record_dispatch : after (given 0x3C (recordAtEnd .dispatch)) (fun t =>
    t.phase = .emit ∧ t.pending = some (.records (some [0x41])) ∧ t.frameCount = 1#32) = true := by decide

/-- V36: RECORDS without data for an empty payload. -/
theorem test_record_empty : after (given 0x2B (inHeader .dispatch 11 emptyRecordHeader)) (fun t =>
    t.phase = .emit ∧ t.pending = some (.records none)) = true := by decide

/-- V35: EXCEPTIONS with the whole body. -/
theorem test_exception_dispatch : after (given 0xAC (inChecksum .dispatch 3
    #v[0x00, 0x80, 0x00, 0x02, 0x00, 0x00, 0x00, 0x02, 0x79, 0xFA, 0x07, 0xD7] [0x68, 0x69]
    #v[0xD8, 0x93, 0x2A, 0x00])) (fun t => t.pending = some (.exceptions (some [0x68, 0x69]))) = true := by decide

/-- V34: STATS with the offset stripped. -/
theorem test_stats_dispatch : after (given 0xA0 (inChecksum .dispatch 3
    #v[0x00, 0x80, 0x00, 0x03, 0x00, 0x00, 0x00, 0x09, 0xD3, 0x48, 0xF7, 0xEF] [0, 0, 0, 0, 0, 0, 0, 0, 0x78]
    #v[0xB8, 0xD7, 0xED, 0x00])) (fun t => t.pending = some (.stats (some [0x78]))) = true := by decide

/-- V40: a continuation offered in DECODE, its one byte the offset. -/
theorem test_continuation_decode : after (given 0xE9 (inChecksum .decode 3
    #v[0x00, 0x80, 0x00, 0x04, 0x00, 0x00, 0x00, 0x01, 0x6F, 0xB3, 0xA3, 0xCD] [0x10]
    #v[0xCF, 0xB5, 0xFF, 0x00])) (fun t => t.pending = some (.frame
      ⟨0x00#8, 0x800004#32, .continuation, 1#32, 0x6FB3A3CD#32, some [0x10], none, some 0xCFB5FFE9#32⟩)) = true := by
  decide

/-- V27: a continuation absorbed in DISPATCH. -/
theorem test_continuation_dispatch : after (given 0x0D (inChecksum .dispatch 3
    #v[0x00, 0x80, 0x00, 0x04, 0x00, 0x00, 0x00, 0x08, 0x16, 0x6F, 0x1B, 0x69] [0, 0, 0, 0, 0, 0, 0, 0x10]
    #v[0x78, 0x95, 0xCF, 0x00])) (fun t =>
      t.phase = .hdr ∧ t.idx = 0#32 ∧ t.pending = none ∧ t.frameCount = 1#32) = true := by decide

/-- V31: an END frame with a body ends the session in DISPATCH. -/
theorem test_end_dispatch : after (given 0xA1 (inChecksum .dispatch 3
    #v[0x00, 0x80, 0x00, 0x05, 0x00, 0x00, 0x00, 0x02, 0xCB, 0xDA, 0xDB, 0xC7] [0x7A, 0x7A]
    #v[0x24, 0xD9, 0x1B, 0x00])) (fun t => statusWord t = 0x0000183D#32 ∧ t.pending = none) = true := by decide

/-- V32: the same frame is offered in DECODE. -/
theorem test_end_decode : after (given 0xA1 (inChecksum .decode 3
    #v[0x00, 0x80, 0x00, 0x05, 0x00, 0x00, 0x00, 0x02, 0xCB, 0xDA, 0xDB, 0xC7] [0x7A, 0x7A]
    #v[0x24, 0xD9, 0x1B, 0x00])) (fun t => t.phase = .emit ∧ t.pending = some (.frame
      ⟨0x00#8, 0x800005#32, .endMark, 2#32, 0xCBDADBC7#32, none, some [0x7A, 0x7A], some 0x24D91BA1#32⟩)) = true := by
  decide

/-- The frame of V16 and V17 before its last byte. -/
def unknownAtEnd (m : Mode) : State := inChecksum m 3
  #v[0x00, 0x80, 0x00, 0x06, 0x00, 0x00, 0x00, 0x02, 0x8C, 0x7A, 0xA1, 0x17] [0x61, 0x62] #v[0x9E, 0x83, 0x48, 0x00]

/-- V16: an unknown type raises UNKNOWN_TYPE in DISPATCH. -/
theorem test_unknown_dispatch : after (given 0x6D (unknownAtEnd .dispatch)) (fun t =>
    statusWord t = 0x00001A2E#32 ∧ t.errInfo = 0x00800006#32 ∧ t.frameCount = 1#32) = true := by decide

/-- V17: it is offered in DECODE. -/
theorem test_unknown_decode : after (given 0x6D (unknownAtEnd .decode)) (fun t =>
    t.pending = some (.frame ⟨0x00#8, 0x800006#32, .unknown 0x800006#32, 2#32, 0x8C7AA117#32, none,
      some [0x61, 0x62], some 0x9E83486D#32⟩)) = true := by decide

/-! ### The errors of a read -/

/-- V7: a changed checksum byte in the header; V5's rule that nothing of the body is read. -/
theorem test_header_checksum : after (given 0x96 (inHeader .dispatch 11
    #v[0x00, 0x80, 0x00, 0x01, 0x00, 0x00, 0x00, 0x0D, 0xAF, 0xE5, 0x60, 0x00])) (fun t =>
      statusWord t = 0x0000012E#32 ∧ t.errInfo = 0xAFE56096#32 ∧ t.errCrc = 0xAEE56096#32) = true := by decide

/-- V8: a payload longer than P_PAYLOAD_MAX. -/
theorem test_capacity : after (given 0xD9 { inHeader .dispatch 11 longHeader with params := ⟨16#32, .truncate, 0⟩ })
    (fun t => statusWord t = 0x0000052E#32 ∧ t.errInfo = 0x00000011#32) = true := by decide

/-- V3: EOS inside a header. -/
theorem test_short_header : after (ended (inHeader .dispatch 3 recordHeader)) (fun t =>
    statusWord t = 0x0000032E#32 ∧ t.errInfo = 0x00000003#32) = true := by decide

/-- V22: a body shorter than the offset under MALFORMED. -/
theorem test_short_offset : after (given 0x1B { (inChecksum .dispatch 3
    #v[0x00, 0x80, 0x00, 0x01, 0x00, 0x00, 0x00, 0x01, 0xA7, 0x53, 0x2C, 0xBD] [0x01]
    #v[0xA5, 0x05, 0xDF, 0x00]) with params := ⟨0xFFFFFFFF#32, .malformed, 0⟩ }) (fun t =>
      statusWord t = 0x00000B2E#32 ∧ t.errInfo = 0x00000001#32 ∧ t.frameCount = 0#32) = true := by decide

/-- V20: SNK rejects the event. -/
theorem test_sink_error : after (moving (.snk .err) offering) (fun t =>
    statusWord t = 0x00001C2E#32 ∧ t.frameCount = 1#32) = true := by decide

/-! ### The commands and the registers -/

/-- K3: CMD.START in DISPATCH. -/
theorem test_start : after (written 0x5#32 State.reset) (fun t => statusWord t = 0x00001849#32) = true := by decide

/-- K5: START while BUSY writes ctrl_mode only. -/
theorem test_start_busy : after (written 0x1#32 (inHeader .dispatch 0 recordHeader)) (fun t =>
    statusWord t = 0x00001849#32 ∧ ctrlWord t = 0x00000000#32) = true := by decide

/-- K8: ABORT inside a header. -/
theorem test_abort : after (written 0x6#32 (inHeader .dispatch 5 recordHeader)) (fun t =>
    statusWord t = 0x0000182F#32 ∧ closeCount t.history = 1) = true := by decide

/-- K7: START and ABORT together in IDLE do nothing. -/
theorem test_abort_idle : after (written 0x7#32 State.reset) (fun t =>
    statusWord t = 0x00001800#32 ∧ ctrlWord t = 0x00000004#32 ∧ closeCount t.history = 0) = true := by decide

/-- K2: CMD.NOP. -/
theorem test_nop : after (written 0x0#32 State.reset) (fun t =>
    statusWord t = 0x00001800#32 ∧ ctrlWord t = 0x00000000#32) = true := by decide

/-- K13: a write to STATUS is ignored. -/
theorem test_read_only : after (moving (.regWrite 0x04 32 0xFFFFFFFF#32) State.reset) (fun t =>
    statusWord t = 0x00001800#32) = true := by decide

/-- Z2: reset inside a body issues no SrcClose. -/
theorem test_reset : after (moving .reset (inBody .dispatch 3 recordHeader recordBody)) (fun t =>
    statusWord t = 0x00001800#32 ∧ closeCount t.history = 0) = true := by decide

/-! ### The host's placing of a table word: the next step runs it -/

theorem test_placed_frames :
    after (State.reset.withFetchWord 24 0x800001) (fun t => t.ptype = .record ∧ t.frameCount = 1#32) = true ∧
    after (State.reset.withFetchWord 24 0x800002) (fun t => t.ptype = .exception ∧ t.frameCount = 1#32) = true ∧
    after (State.reset.withFetchWord 24 0x800003) (fun t => t.ptype = .stats ∧ t.frameCount = 1#32) = true ∧
    after (State.reset.withFetchWord 24 0x800004) (fun t => t.ptype = .continuation ∧ t.frameCount = 1#32) = true ∧
    after (State.reset.withFetchWord 24 0x800005) (fun t => t.endSeen = true ∧ t.frameCount = 1#32) = true ∧
    after (State.reset.withFetchWord 32 0) (fun t => t.ptype = .unknown 0#32 ∧ t.frameCount = 1#32) = true := by decide

theorem test_placed_commands :
    after (State.reset.withFetchWord 8 1) (fun t => t.phase = .hdr) = true ∧
    after (State.reset.withFetchWord 8 2) (fun t => t.phase = .idle ∧ t.ctrlMode = .decode) = true ∧
    after (State.reset.withFetchWord 8 0) (fun t => t.phase = .idle ∧ t.ctrlMode = .decode) = true := by decide

/-! ### Witnesses: states and operands that meet the hypotheses of the statements -/

/-- The last header byte of an empty record is due. -/
def emptyAtEnd : State := given 0x2B (inHeader .dispatch 11 (emptyRecordHeader.set 11 0x00))

/-- One of SRC's bytes is due, as given leaves it. -/
theorem byte_due (b : Byte) (s : State) : (given b s).byteComes b (only []) (only []) := ⟨rfl, rfl⟩

/-- EOS is due, as ended leaves it. -/
theorem eos_due (s : State) : (ended s).eosComes (only []) := ⟨rfl, rfl, rfl⟩

/-- A state before the last byte of a payload checksum meets the invariant. -/
theorem recordAtEnd_inv : (recordAtEnd .dispatch : State).Inv where
  index := ⟨by decide, by decide⟩
  pending := by decide
  closed := by decide
  errClass := by decide
  errDetail := by decide
  typeCode := by decide
  headerCrc h := absurd h (by decide)
  header _ := ⟨by decide, by decide, by decide, by decide, by decide⟩
  payload h := absurd h (by decide)
  wholeBody _ := by decide
  bodyCrc _ := by decide
  validated h := absurd h (by decide)
  endSeen := by decide
  event _ h := by cases h
  withdrawn _ := by decide

/-- A state before the first byte of a payload checksum, where its buffer is stale, meets it. -/
theorem firstChecksum_inv : ({ recordAtEnd .dispatch with idx := 0#32 } : State).Inv where
  index := ⟨by decide, by decide⟩
  pending := by decide
  closed := by decide
  errClass := by decide
  errDetail := by decide
  typeCode := by decide
  headerCrc h := absurd h (by decide)
  header _ := ⟨by decide, by decide, by decide, by decide, by decide⟩
  payload h := absurd h (by decide)
  wholeBody _ := by decide
  bodyCrc _ := by decide
  validated h := absurd h (by decide)
  endSeen := by decide
  event _ h := by cases h
  withdrawn _ := by decide

/-- A state before the last byte of a header meets it. -/
theorem headerAtEnd_inv : (inHeader .dispatch 11 emptyRecordHeader : State).Inv where
  index := ⟨by decide, by decide⟩
  pending := by decide
  closed := by decide
  errClass := by decide
  errDetail := by decide
  typeCode := by decide
  headerCrc _ := by decide
  header h := absurd h (by decide)
  payload h := absurd h (by decide)
  wholeBody h := absurd h (by decide)
  bodyCrc h := absurd h (by decide)
  validated h := absurd h (by decide)
  endSeen := by decide
  event _ h := by cases h
  withdrawn _ := by decide

/-- A state that offers an event meets it. -/
theorem offering_inv : (offering : State).Inv where
  index := ⟨by decide, by decide⟩
  pending := by decide
  closed := by decide
  errClass := by decide
  errDetail := by decide
  typeCode := by decide
  headerCrc h := absurd h (by decide)
  header _ := ⟨by decide, by decide, by decide, by decide, by decide⟩
  payload h := absurd h (by decide)
  wholeBody h := absurd h (by decide)
  bodyCrc h := absurd h (by decide)
  validated _ := .inr (by decide)
  endSeen := by decide
  event _ h := by cases h; decide
  withdrawn _ := by decide

/-- A state that offers an END frame meets it. -/
theorem offeringEnd_inv : (offeringEnd : State).Inv where
  index := ⟨by decide, by decide⟩
  pending := by decide
  closed := by decide
  errClass := by decide
  errDetail := by decide
  typeCode := by decide
  headerCrc h := absurd h (by decide)
  header _ := ⟨by decide, by decide, by decide, by decide, by decide⟩
  payload h := absurd h (by decide)
  wholeBody h := absurd h (by decide)
  bodyCrc h := absurd h (by decide)
  validated _ := .inl (by decide)
  endSeen := by decide
  event _ h := by cases h; decide
  withdrawn _ := by decide

/-- A session that ended without error. -/
def doneState : State := { State.reset with phase := .done, closed := true, mode := .dispatch }

/-- It meets the invariant. -/
theorem doneState_inv : doneState.Inv where
  index := ⟨by decide, by decide⟩
  pending := by decide
  closed := by decide
  errClass := by decide
  errDetail := by decide
  typeCode := by decide
  headerCrc h := absurd h (by decide)
  header h := absurd h (by decide)
  payload h := absurd h (by decide)
  wholeBody h := absurd h (by decide)
  bodyCrc h := absurd h (by decide)
  validated h := absurd h (by decide)
  endSeen := by decide
  event _ h := by cases h
  withdrawn h := absurd h (by decide)

/-- DecodeInvertsEncode: a header of the default row at its edges, and a command. -/
theorem test_witness_decode :
    (Instr.frameUnknown 0xFF#8 0xFFFFFF#24).wellFormed = true ∧ (Instr.frameUnknown 0x00#8 0x000000#24).wellFormed = true ∧
    encode (.frameUnknown 0xFF#8 0xFFFFFF#24) = .header [0xFF, 0xFF, 0xFF, 0xFF] ∧
    (Instr.cmdAbort true .dispatch 0x1FFFFFFF#29).wellFormed = true := by decide

/-- TypeIsMatchedOnHeaderWord: a word for each pattern, the edges of the default row, and two versions of one word. -/
theorem test_witness_type_match :
    0xFF800001#32 &&& 0x00FFFFFF#32 = 0x00800001#32 ∧ 0x00800002#32 &&& 0x00FFFFFF#32 = 0x00800002#32 ∧
    0x00800003#32 &&& 0x00FFFFFF#32 = 0x00800003#32 ∧ 0x00800004#32 &&& 0x00FFFFFF#32 = 0x00800004#32 ∧
    0x00800005#32 &&& 0x00FFFFFF#32 = 0x00800005#32 ∧
    0x00800000#32 &&& 0x00FFFFFF#32 ∉ [0x00800001#32, 0x00800002#32, 0x00800003#32, 0x00800004#32, 0x00800005#32] ∧
    0xFF800006#32 &&& 0x00FFFFFF#32 ∉ [0x00800001#32, 0x00800002#32, 0x00800003#32, 0x00800004#32, 0x00800005#32] ∧
    (Instr.frameRecord 0#8).tableRow.mask = 0x00FFFFFF#32 ∧
    0xFF800001#32 &&& (Instr.frameRecord 0#8).tableRow.mask = (Instr.frameRecord 0#8).tableRow.pattern ∧
    0x00800001#32 &&& 0x00FFFFFF#32 = 0xFF800001#32 &&& 0x00FFFFFF#32 := by simp [Instr.tableRow]

/-- CtrlValueIsOneCommand: a value for each command, and two that differ in the reserved bits only. -/
theorem test_witness_ctrl :
    (0x3#32 : Word).getLsbD 1 = true ∧ (0x2#32 : Word).getLsbD 1 = true ∧
    (0x1#32 : Word).getLsbD 1 = false ∧ (0x1#32 : Word).getLsbD 0 = true ∧
    (0x0#32 : Word).getLsbD 1 = false ∧ (0x0#32 : Word).getLsbD 0 = false ∧
    (0xFFFFFFF9#32 : Word).extractLsb' 0 3 = (0x1#32 : Word).extractLsb' 0 3 := by decide

/-- StepRunsEmptyFrame. -/
theorem test_witness_empty_frame :
    emptyAtEnd.phase = .hdr ∧ emptyAtEnd.idx = 11#32 ∧ emptyAtEnd.byteComes 0x2B (only []) (only []) ∧
    decode (.header (emptyAtEnd.hbuf.set 11 0x2B).toList) =
      .ok (.frameRecord 0x00#8, [0x00, 0x00, 0x00, 0x00, 0xD0, 0x54, 0x1C, 0x2B]) ∧
    headerLength (emptyAtEnd.hbuf.set 11 0x2B) = 0#32 ∧
    crcFinal emptyAtEnd.crc = headerChecksum (emptyAtEnd.hbuf.set 11 0x2B) :=
  ⟨rfl, rfl, byte_due _ _, by decide, by decide, by decide⟩

/-- StepRunsFrameWithPayload, and the last clause of ChecksumByteRule. -/
theorem test_witness_frame_with_payload :
    (given 0x3C (recordAtEnd .dispatch)).Inv ∧ (given 0x3C (recordAtEnd .dispatch)).phase = .pcrc ∧
    (recordAtEnd .dispatch).idx = 3#32 ∧ (given 0x3C (recordAtEnd .dispatch)).byteComes 0x3C (only []) (only []) ∧
    decode (.header (recordAtEnd .dispatch).hbuf.toList) =
      .ok (.frameRecord 0x00#8, [0x00, 0x00, 0x00, 0x09, 0xA9, 0x88, 0xA4, 0x8F]) ∧
    crcFinal (recordAtEnd .dispatch).crc = payloadChecksum ((recordAtEnd .dispatch).pcbuf.set 3 0x3C) :=
  ⟨inv_agents recordAtEnd_inv _ _ _ _, by decide, by decide, byte_due _ _, by decide, by decide⟩

/-- StepRunsCommand. -/
theorem test_witness_command :
    (written 0x5#32 State.reset).nextMove = some (.regWrite 0x00 32 0x5#32, only []) ∧
    decode (.ctrl 0x5#32) = .ok (.cmdStart .dispatch 0#29, []) := ⟨rfl, by decide⟩

/-- WaitingChangesNothing: no move to come, and SRC's turn with nothing to give. -/
theorem test_witness_waiting :
    State.reset.nextMove = none ∧ (∃ s : State, s.phase.reads = true ∧ s.nextMove = some (.src, only []) ∧
      s.nextByte = none ∧ s.streamEnds = false) :=
  ⟨rfl, moving .src (inHeader .decode 0 recordHeader), rfl, rfl, rfl, rfl⟩

/-- HeaderByteRule: bytes 0, 7, 8 and 10; and byte 11 with a wrong checksum, an empty payload, one too long, one that
fits. -/
theorem test_witness_header_byte :
    (∀ n ∈ [0, 7, 8, 10, 11], (given 0x01 (inHeader .decode n recordHeader)).phase = .hdr ∧
      (inHeader .decode n recordHeader).idx = BitVec.ofNat 32 n) ∧
    (∀ n, (given 0x01 (inHeader .decode n recordHeader)).byteComes 0x01 (only []) (only [])) ∧
    crcFinal (inHeader .decode 11 recordHeader).crc ≠ headerChecksum (recordHeader.set 11 0x01) ∧
    crcFinal (inHeader .decode 11 recordHeader).crc = headerChecksum (recordHeader.set 11 0x8F) ∧
    crcFinal emptyAtEnd.crc = headerChecksum (emptyAtEnd.hbuf.set 11 0x2B) ∧
    crcFinal (inHeader .decode 11 longHeader).crc = headerChecksum (longHeader.set 11 0xD9) ∧
    16 < (headerLength longHeader).toNat :=
  ⟨by decide, fun _ => byte_due _ _, by decide, by decide, by decide, by decide, by decide⟩

/-- EosRule: header byte 0, bytes 1 and 11, the first and the last body byte, the first and the last checksum byte. -/
theorem test_witness_eos :
    (∀ s, (ended s).eosComes (only [])) ∧
    (∀ n ∈ [0, 1, 11], (ended (inHeader .decode n recordHeader)).phase = .hdr ∧
      (inHeader .decode n recordHeader).idx.toNat = n) ∧
    (∀ n ∈ [0, 8], (ended (inBody .decode n recordHeader recordBody)).phase = .pay ∧
      (inBody .decode n recordHeader recordBody).idx.toNat < (inBody .decode n recordHeader recordBody).plen.toNat) ∧
    (∀ n ∈ [0, 3], (inChecksum .decode n recordHeader recordBody #v[0x38, 0xE8, 0x62, 0x3C]).phase = .pcrc ∧
      (inChecksum .decode n recordHeader recordBody #v[0x38, 0xE8, 0x62, 0x3C]).idx.toNat ≤ 3) :=
  ⟨eos_due, by decide, by decide, by decide⟩

/-- PayloadByteRule: the first and the last byte of a body of nine. -/
theorem test_witness_payload_byte :
    (∀ s, (given 0x41 s).byteComes 0x41 (only []) (only [])) ∧
    (∀ n ∈ [0, 7, 8], (inBody .decode n recordHeader recordBody).phase = .pay ∧
      (inBody .decode n recordHeader recordBody).idx.toNat = n) ∧
    (latched .decode recordHeader).plen.toNat = 9 := ⟨byte_due 0x41, by decide, by decide⟩

/-- ChecksumByteRule: its first byte. -/
theorem test_witness_checksum_byte : ∃ s : State, s.Inv ∧ s.phase = .pcrc ∧ s.byteComes 0x38 (only []) (only []) ∧ s.idx = 0#32 :=
  ⟨_, inv_agents firstChecksum_inv [] (only [0x38]) false (only [.src]), by decide, ⟨rfl, rfl⟩, by decide⟩

/-- SplitRules and EmptyDataIsAbsent: bodies of 8 and 9 bytes, of 1 byte, and none. -/
theorem test_witness_split :
    (recordBody.take 8).length = 8 ∧ recordBody.length = 9 ∧ 1 ≤ [0x7A#8].length ∧
    split .truncate .record (some recordBody) = .parts (some (recordBody.take 8)) (some [0x41]) ∧
    split .malformed .endMark (some []) = .parts none none ∧
    State.reset.plen = 0#32 ∧ (latched .decode recordHeader).plen ≠ 0#32 := by decide

/-- ShortOffsetRule: bodies of 1 and of 7 bytes, under each choice. -/
theorem test_witness_short_offset : ∀ n ∈ [1, 7], ∀ c ∈ [ShortOffset.truncate, ShortOffset.malformed],
    ∃ s : State, s.plen ≠ 0#32 ∧ s.pbuf.length = n ∧ s.params.shortOffset = c := fun n hn c _ =>
  ⟨{ State.reset with plen := BitVec.ofNat 32 n, pbuf := List.replicate n 0x01, params := ⟨0#32, c, 0⟩ },
    by show BitVec.ofNat 32 n ≠ 0#32; revert n; decide, List.length_replicate, rfl⟩

/-- RecordIsOffered, StatsAreOffered, ContinuationIsAbsorbed: an offset is accepted for each of the three reasons. -/
theorem test_witness_offset :
    State.reset.plen = 0#32 ∧ 8 ≤ (recordAtEnd .dispatch).pbuf.length ∧ State.reset.params.shortOffset = .truncate ∧
    (recordAtEnd .dispatch).mode = .dispatch ∧ (recordAtEnd .decode).mode = .decode := by decide

/-- EndEndsTheSession and SinkOkRule: an END frame and another frame answered OK. -/
theorem test_witness_ack_ok : ∀ s ∈ [offering, offeringEnd],
    s.phase = .emit ∧ s.pending.isSome = true ∧ (s.ptype = .endMark ↔ s.mode = .decode) := by decide

/-- FrameOperationsLeaveTheRest. -/
theorem test_witness_frame_op :
    (Instr.frameEnd 0#8).tableRow.format = .frameHdrW0 ∧ ∃ t, exec (.frameEnd 0#8) State.reset = .next t := ⟨rfl, _, rfl⟩

/-- SinkErrorRule. -/
theorem test_witness_ack_err : ∃ (s : State) (ev : Event),
    s.phase = .emit ∧ s.pending = some ev ∧ s.nextMove = some (.snk .err, only []) :=
  ⟨moving (.snk .err) offering, _, rfl, rfl, rfl⟩

/-- StartRule and AbortRule: a state in each phase the clauses name. -/
theorem test_witness_phase : ∀ p : Phase, ∃ s : State, s.phase = p := fun p => ⟨{ State.reset with phase := p }, rfl⟩

/-- AnswerAfterAbortHasNoEffect: an ABORT while a read and while an event is outstanding; a withdrawn request of each
kind and its answer; and a register access before that. -/
theorem test_witness_abort :
    (inHeader .decode 5 recordHeader).phase.reads = true ∧ offering.phase = .emit ∧
    (∃ s : State, s.phase = .aborted ∧ s.withdrawn = some .srcRead ∧ s.nextMove = some (.src, only [])) ∧
    (∃ s : State, s.phase = .aborted ∧ s.withdrawn = some .snkPut ∧ s.nextMove = some (.snk .err, only [])) ∧
    (∃ s t : State, s.phase = .aborted ∧ s.withdrawn = some .snkPut ∧ step s = .next t ∧
      s.nextMove = some (.regRead 0x04 32, only [])) := by
  let s : State := { State.reset with phase := .aborted, closed := true }
  obtain ⟨t, e, -⟩ := next_of_after (s := moving (.regRead 0x04 32) { s with withdrawn := some .snkPut })
    (p := fun t => t.phase = .aborted) (by decide)
  exact ⟨by decide, by decide, ⟨moving .src { s with withdrawn := some .srcRead }, rfl, rfl, rfl⟩,
    ⟨moving (.snk .err) { s with withdrawn := some .snkPut }, rfl, rfl, rfl⟩, _, t, rfl, rfl, e, rfl⟩

/-- HostAccessRule: each access at the first and the last offset of its clause, and the nearest it refuses. -/
theorem test_witness_access :
    (∀ off ∈ [0x00, 0x10], off ∈ [0x00, 0x04, 0x08, 0x0C, 0x10]) ∧ (∀ off ∈ [0x04, 0x10], off ∈ [0x04, 0x08, 0x0C, 0x10]) ∧
    (∀ off ∈ [0x01, 0x02, 0x14], off ∉ [0x00, 0x04, 0x08, 0x0C, 0x10]) ∧ (8 ≠ 32) ∧
    (∀ i : Input, ∃ s : State, s.nextMove = some (i, only [])) :=
  ⟨by decide, by decide, by decide, by decide, fun i => ⟨moving i State.reset, rfl⟩⟩

/-- ResetRule: reset comes inside a body. -/
theorem test_witness_reset : ∃ s : State, s.phase = .pay ∧ s.nextMove = some (.reset, only []) :=
  ⟨moving .reset (inBody .decode 3 recordHeader recordBody), rfl, rfl⟩

/-- A state of the invariant, with the agents' fields as given. -/
def aboutTo (s : State) (i : Input) (bytes : List Byte) : State := moving i { s with stream := only bytes }

theorem aboutTo_inv {s : State} (I : s.Inv) (i : Input) (bytes : List Byte) : (aboutTo s i bytes).Inv :=
  inv_agents I _ _ _ _

/-- StepKeepsInv, CloseIsIssuedOnce, NothingFollowsEnd: an END frame's event is answered and the session ends. -/
theorem test_witness_end : ∃ s t : State, s.Inv ∧ step s = .next t ∧ s.endSeen = true ∧ s.phase.busy = true ∧
    s.nextMove = some (.snk .ok, only []) ∧ s.phase.terminal = false ∧ t.phase.terminal = true := by
  obtain ⟨t, e, h⟩ := next_of_after (s := aboutTo offeringEnd (.snk .ok) []) (p := fun t => t.phase.terminal) (by decide)
  exact ⟨_, t, aboutTo_inv offeringEnd_inv _ _, e, by decide, by decide, rfl, by decide, h⟩

/-- StepKeepsInv, BytesAreReadOnceInOrder, HistoryIsAppendOnly: a step that takes a frame's last byte. -/
theorem test_witness_byte_read : ∃ s t : State, s.Inv ∧ step s = .next t ∧
    s.nextByte = some (0x3C, only []) ∧ t.phase = .emit := by
  obtain ⟨t, e, h⟩ := next_of_after (s := aboutTo (recordAtEnd .dispatch) .src [0x3C])
    (p := fun t => t.phase = .emit) (by decide)
  exact ⟨_, t, aboutTo_inv recordAtEnd_inv _ _, e, by decide, of_decide_eq_true h⟩

/-- StopsAreOutsideTheInterface: a step that is refused. -/
theorem test_witness_refused : ∃ s : State, s.Inv ∧ step s = .refused .srcAnswersNoRequest :=
  ⟨_, aboutTo_inv offering_inv .src [], (step_moves rfl).trans rfl⟩

/-- QuietOutsideASession, OnlyStartOrResetLeavesTerminal, ModeIsLatchedAtStart: START in a terminal phase. -/
theorem test_witness_terminal : ∃ s t : State,
    s.phase.busy = false ∧ s.phase.terminal = true ∧ step s = .next t ∧ t.mode ≠ s.mode := by
  obtain ⟨t, e, h⟩ := next_of_after (s := written 0x5#32 { State.reset with phase := .error })
    (p := fun t => t.mode = .dispatch) (by decide)
  exact ⟨_, t, by decide, by decide, e, by rw [of_decide_eq_true h]; decide⟩

/-- CloseIsIssuedOnce: START clears CLOSED after a session. -/
theorem test_witness_reopened : ∃ s t : State,
    s.Inv ∧ step s = .next t ∧ s.closed = true ∧ t.closed = false ∧
    s.nextMove = some (.regWrite 0x00 32 0x1#32, only []) := by
  obtain ⟨t, e, h⟩ := next_of_after (s := aboutTo doneState (.regWrite 0x00 32 0x1#32) [])
    (p := fun t => t.closed = false) (by decide)
  exact ⟨_, t, aboutTo_inv doneState_inv _ _, e, by decide, of_decide_eq_true h, rfl⟩

/-- ErrorsArePrecise: SNK rejects an event, and a header check fails. -/
theorem test_witness_error :
    (∃ s t : State, s.Inv ∧ s.phase ≠ .error ∧ step s = .next t ∧ t.phase = .error ∧ t.errClass = .sink) ∧
    (∃ s t : State, s.Inv ∧ s.phase ≠ .error ∧ step s = .next t ∧ t.phase = .error ∧ t.errClass = .checksum) := by
  obtain ⟨t, e, h⟩ := next_of_after (s := aboutTo offering (.snk .err) [])
    (p := fun t => t.phase = .error ∧ t.errClass = .sink) (by decide)
  obtain ⟨u, e', h'⟩ := next_of_after (s := aboutTo (inHeader .dispatch 11 emptyRecordHeader) .src [0x2C])
    (p := fun t => t.phase = .error ∧ t.errClass = .checksum) (by decide)
  exact ⟨⟨_, t, aboutTo_inv offering_inv _ _, by decide, e, of_decide_eq_true h⟩,
    ⟨_, u, aboutTo_inv headerAtEnd_inv _ _, by decide, e', of_decide_eq_true h'⟩⟩

/-- StaleFieldsAreNeverRead: two states in HDR that differ in bytes not received yet. -/
theorem test_witness_stale : ∃ s t : State, s.SameWritten t ∧ s ≠ t :=
  ⟨inHeader .decode 1 recordHeader, inHeader .decode 1 (recordHeader.set 5 0xEE),
    ⟨rfl, fun _ => by decide, fun _ => by decide, fun h => absurd h (by decide), fun h => absurd h (by decide),
      fun h => absurd h (by decide)⟩, by decide⟩

/-- WholeFrameIsReadAndRun: an empty frame and one with a body, as their streams begin. -/
theorem test_witness_whole_frame : ∀ body ∈ [[], [0x41#8]], ∃ s : State,
    s.phase = .hdr ∧ s.idx = 0#32 ∧ s.crc = crcInitial ∧ body.length ≤ s.params.payloadMax.toNat ∧
    Supply.Gives Config.freeByte (frameBytes 0x00#8 0x800001#24 body) s.stream (only []) ∧
    Supply.Gives Config.freeMove (List.replicate (if body = [] then 12 else 16 + body.length) .src) s.inputs
      (only []) := fun body hb =>
  ⟨{ State.reset with
      phase := .hdr, stream := only (frameBytes 0x00#8 0x800001#24 body ++ [])
      inputs := only (List.replicate (if body = [] then 12 else 16 + body.length) .src ++ []) },
    rfl, rfl, rfl, by fin_cases hb <;> decide, gives_ready _ _ _ _, gives_ready _ _ _ _⟩

/-- CrcIsThatOfR100: the values the eight turns of the bit loop take, for any register and byte. -/
theorem test_witness_crc (c : Word) (b : Byte) : ∃ r : Nat → Word, r 0 = c ^^^ b.setWidth 32 ∧
    ∀ k, k < 8 → r (k + 1) = if (r k).getLsbD 0 = true then (r k >>> 1) ^^^ 0xEDB88320#32 else r k >>> 1 :=
  ⟨fun k => crcBit^[k] (c ^^^ b.setWidth 32), rfl, fun k _ => Function.iterate_succ_apply' crcBit k _⟩

/-- The bytes of an empty CONTINUATION frame: the header H4. -/
def emptyContinuation : List Byte := [0x00, 0x80, 0x00, 0x04, 0x00, 0x00, 0x00, 0x00, 0x18, 0xB4, 0x93, 0x5B]

/-- EndlessStreamRunsForever: an empty CONTINUATION frame that repeats, and SRC answering without an end. -/
theorem test_witness_endless : ∃ (s : State) (first : Byte) (more : List Byte),
    s.phase = .hdr ∧ s.idx = 0#32 ∧ s.crc = crcInitial ∧ s.mode = .dispatch ∧
    ([] : List Byte).length ≤ s.params.payloadMax.toNat ∧
    first :: more = frameBytes 0x00#8 0x800004#24 [] ∧
    s.stream = ⟨[], .repeats first more⟩ ∧ s.inputs = ⟨[], .repeats .src []⟩ :=
  ⟨{ State.reset with
      phase := .hdr, mode := .dispatch, inputs := ⟨[], .repeats .src []⟩
      stream := ⟨[], .repeats 0x00#8 (emptyContinuation.drop 1)⟩ },
    0x00#8, emptyContinuation.drop 1, rfl, rfl, rfl, rfl, by decide, by decide, rfl, rfl⟩

/-- An endless stream gives its bytes in order, and comes round. -/
theorem test_endless_stream : ∃ u, Supply.Gives Config.freeByte [0x01, 0x02, 0x01] ⟨[], .repeats 0x01 [0x02]⟩ u :=
  ⟨_, _, rfl, _, rfl, _, rfl, rfl⟩

/-- A drawn stream's bytes are the free values of its name, in order, whatever they are. -/
theorem test_drawn_stream (name n : Nat) :
    ({ State.reset with stream := ⟨[], .drawn name n⟩ } : State).nextByte =
      some (Config.freeByte name n, ⟨[], .drawn name (n + 1)⟩) := rfl

/-- The state before the last header byte in which header byte 0 was changed. -/
def headerCorrupted : State := given 0x2B (inHeader .dispatch 11 ((emptyRecordHeader.set 0 0xAA).set 11 0x00))

/-- The state before the last checksum byte in which body byte 0 was changed. -/
def bodyCorrupted : State :=
  given 0x3C (inChecksum .dispatch 3 recordHeader (recordBody.set 0 0xAA) #v[0x38, 0xE8, 0x62, 0x00])

theorem headerCorrupted_inv : headerCorrupted.Inv where
  index := ⟨by decide, by decide⟩
  pending := by decide
  closed := by decide
  errClass := by decide
  errDetail := by decide
  typeCode := by decide
  headerCrc _ := by decide
  header h := absurd h (by decide)
  payload h := absurd h (by decide)
  wholeBody h := absurd h (by decide)
  bodyCrc h := absurd h (by decide)
  validated h := absurd h (by decide)
  endSeen := by decide
  event _ h := by cases h
  withdrawn _ := by decide

theorem bodyCorrupted_inv : bodyCorrupted.Inv where
  index := ⟨by decide, by decide⟩
  pending := by decide
  closed := by decide
  errClass := by decide
  errDetail := by decide
  typeCode := by decide
  headerCrc h := absurd h (by decide)
  header _ := ⟨by decide, by decide, by decide, by decide, by decide⟩
  payload h := absurd h (by decide)
  wholeBody _ := by decide
  bodyCrc _ := by decide
  validated h := absurd h (by decide)
  endSeen := by decide
  event _ h := by cases h
  withdrawn _ := by decide

/-- SingleByteCorruptionIsDetected, its first clause: header byte 0 changed, and header byte 11 changed, each state
meeting every hypothesis. -/
theorem test_witness_corrupted_header :
    (headerCorrupted.Inv ∧ headerCorrupted.phase = .hdr ∧ headerCorrupted.idx = 11#32 ∧
      headerCorrupted.byteComes 0x2B (only []) (only []) ∧
      headerChecksum emptyRecordHeader = crc32 (emptyRecordHeader.toList.take 8) ∧
      0xAA#8 ≠ emptyRecordHeader[(0 : Fin 12)] ∧
      headerCorrupted.hbuf.set 11 0x2B = emptyRecordHeader.set (0 : Fin 12) 0xAA) ∧
    (∃ s : State, s.Inv ∧ s.phase = .hdr ∧ s.idx = 11#32 ∧ s.byteComes 0xAA (only []) (only []) ∧
      0xAA#8 ≠ emptyRecordHeader[(11 : Fin 12)] ∧ s.hbuf.set 11 0xAA = emptyRecordHeader.set (11 : Fin 12) 0xAA) :=
  ⟨⟨headerCorrupted_inv, by decide, by decide, byte_due _ _, by decide, by decide, by decide⟩,
    given 0xAA (inHeader .dispatch 11 emptyRecordHeader), inv_agents headerAtEnd_inv _ _ _ _, by decide, by decide,
    byte_due _ _, by decide, by decide⟩

/-- Its second clause: body byte 0 changed, and checksum byte 3 changed, each state meeting every hypothesis. -/
theorem test_witness_corrupted_payload :
    payloadChecksum #v[0x38, 0xE8, 0x62, 0x3C] = crc32 recordBody ∧
    (bodyCorrupted.Inv ∧ bodyCorrupted.phase = .pcrc ∧ bodyCorrupted.idx = 3#32 ∧
      bodyCorrupted.byteComes 0x3C (only []) (only []) ∧
      ∃ (k : Fin recordBody.length) (x : Byte), x ≠ recordBody[k] ∧ bodyCorrupted.pbuf = recordBody.set k x ∧
        bodyCorrupted.pcbuf.set 3 0x3C = #v[0x38, 0xE8, 0x62, 0x3C]) ∧
    (∃ s : State, s.Inv ∧ s.phase = .pcrc ∧ s.idx = 3#32 ∧ s.byteComes 0x3D (only []) (only []) ∧
      ∃ (k : Fin 4) (x : Byte), x ≠ (#v[0x38, 0xE8, 0x62, 0x3C] : Vector Byte 4)[k] ∧ s.pbuf = recordBody ∧
        s.pcbuf.set 3 0x3D = (#v[0x38, 0xE8, 0x62, 0x3C] : Vector Byte 4).set k x) :=
  ⟨by decide, ⟨bodyCorrupted_inv, by decide, by decide, byte_due _ _, ⟨0, by decide⟩, 0xAA, by decide, by decide,
      by decide⟩,
    given 0x3D (recordAtEnd .dispatch), inv_agents recordAtEnd_inv _ _ _ _, by decide, by decide, byte_due _ _, 3, 0x3D,
    by decide, by decide, by decide⟩

end Sys2Proof.Tests
end

section
/-!
PROOFS. P_BASE takes no part in a step (R14, R55). Every operation of the model commutes with moving the register window
to another base: the updates by their definition, the guarded ones because no guard reads the base.
-/

namespace Sys2Proof.Machine

/-- The same state on a platform that puts the register window at another base (R55). -/
def State.withBase (base : Nat) (s : State) : State := { s with params := { s.params with base := base } }

/-- The same outcome on such a platform: the same stop, or the next state with that base. -/
def outcomeWithBase (base : Nat) : Host.Outcome State Fault Refusal → Host.Outcome State Fault Refusal
  | .next t => .next (t.withBase base)
  | .fault f => .fault f
  | .refused r => .refused r

section
variable (base : Nat) (s : State)

/-! ### What the rules read of a state does not depend on the base -/

@[simp] theorem withBase_phase : (s.withBase base).phase = s.phase := rfl
@[simp] theorem withBase_mode : (s.withBase base).mode = s.mode := rfl
@[simp] theorem withBase_pending : (s.withBase base).pending = s.pending := rfl
@[simp] theorem withBase_shortOffset : (s.withBase base).params.shortOffset = s.params.shortOffset := rfl
@[simp] theorem withBase_body : (s.withBase base).body = s.body := rfl
@[simp] theorem withBase_nextByte : (s.withBase base).nextByte = s.nextByte := rfl

@[simp] theorem withBase_registerAt (off : Nat) : registerAt (s.withBase base) off = registerAt s off := by
  unfold registerAt
  split <;> rfl

/-! ### Guards -/

/-- A choice commutes with f when each of its branches does: its guard does not see f. -/
theorem ite_eq_apply_ite {α : Type} {f : α → α} {c : Prop} [Decidable c] {x y x' y' : α}
    (hx : x' = f x) (hy : y' = f y) : (if c then x' else y') = f (if c then x else y) := by
  rw [hx, hy, apply_ite f]

/-- CRC_CHECK compares the register with the declared value, and neither is the base (R105). -/
theorem crcCheck_withBase (declared : Word) (wh : ErrWhere) {k : State → Host.Outcome State Fault Refusal}
    (hk : k (s.withBase base) = outcomeWithBase base (k s)) :
    crcCheck declared wh (s.withBase base) k = outcomeWithBase base (crcCheck declared wh s k) :=
  ite_eq_apply_ite hk rfl

/-! ### The operations of the opcode table -/

/-- A frame's action reads the mode and the frame (R170 to R175). -/
theorem frameAction_withBase (f : Frame) {act : Frame → State → State}
    (h : act ∈ [actRecord, actException, actStats, actContinuation, actEnd, actUnknown]) :
    act f (s.withBase base) = (act f s).withBase base := by
  simp only [List.mem_cons, List.not_mem_nil, or_false] at h
  obtain rfl | rfl | rfl | rfl | rfl | rfl := h <;>
    simp only [actRecord, actException, actStats, actContinuation, actEnd, actUnknown, withBase_mode] <;>
    cases s.mode <;> rfl

/-- FRAME_COMPLETE reads the base only if its action does: of the parameters SPLIT takes P_SHORT_OFFSET (R145, R148). -/
theorem completeFrame_withBase (v : Byte) (p : PType) {act : Frame → State → State}
    (hact : ∀ f t, act f (t.withBase base) = (act f t).withBase base) :
    completeFrame v p act (s.withBase base) = (completeFrame v p act s).withBase base := by
  unfold completeFrame
  rw [withBase_shortOffset, withBase_body]
  cases split s.params.shortOffset p s.body with
  | short len => rfl
  | parts o d => exact hact _ (countFrame p s)

/-- No operation of the opcode table reads the base. -/
theorem exec_withBase (i : Instr) : exec i (s.withBase base) = outcomeWithBase base (exec i s) := by
  have frame (v : Byte) (p : PType) {act : Frame → State → State}
      (h : act ∈ [actRecord, actException, actStats, actContinuation, actEnd, actUnknown]) :
      Host.Outcome.next (completeFrame v p act (s.withBase base)) =
        (outcomeWithBase base (.next (completeFrame v p act s)) : Host.Outcome State Fault Refusal) :=
    congrArg _ (completeFrame_withBase base s v p fun f t => frameAction_withBase base t f h)
  cases i with
  | frameRecord v => exact frame v _ (by simp)
  | frameException v => exact frame v _ (by simp)
  | frameStats v => exact frame v _ (by simp)
  | frameContinuation v => exact frame v _ (by simp)
  | frameEnd v => exact frame v _ (by simp)
  | frameUnknown v t => exact frame v _ (by simp)
  | cmdStart m r => exact congrArg Host.Outcome.next (ite_eq_apply_ite rfl rfl)
  | cmdAbort st m r => exact congrArg Host.Outcome.next (ite_eq_apply_ite rfl rfl)
  | cmdNop m r => rfl

/-! ### BLOCK's steps -/

/-- Of the parameters HDR_COMPLETE takes P_PAYLOAD_MAX (R128). -/
theorem afterHeaderCheck_withBase :
    afterHeaderCheck (s.withBase base) = outcomeWithBase base (afterHeaderCheck s) :=
  ite_eq_apply_ite (exec_withBase base s s.frameInstr) (ite_eq_apply_ite rfl rfl)

theorem headerByte_withBase (b : Byte) :
    headerByte b (s.withBase base) = outcomeWithBase base (headerByte b s) :=
  ite_eq_apply_ite rfl
    (crcCheck_withBase base (latchHeader (storeHeaderByte b s)) _ _ (afterHeaderCheck_withBase base _))

theorem payloadByte_withBase (b : Byte) : payloadByte b (s.withBase base) = (payloadByte b s).withBase base :=
  ite_eq_apply_ite rfl rfl

theorem checksumByte_withBase (b : Byte) :
    checksumByte b (s.withBase base) = outcomeWithBase base (checksumByte b s) :=
  ite_eq_apply_ite rfl
    (crcCheck_withBase base (latchChecksum (storeChecksumByte b s)) _ _ (exec_withBase base _ _))

theorem takeByte_withBase (b : Byte) : takeByte b (s.withBase base) = outcomeWithBase base (takeByte b s) := by
  unfold takeByte
  rw [withBase_phase]
  cases s.phase with
  | hdr => exact headerByte_withBase base s b
  | pay => exact congrArg Host.Outcome.next (payloadByte_withBase base s b)
  | pcrc => exact checksumByte_withBase base s b
  | idle | emit | done | error | aborted => rfl

theorem takeEos_withBase : takeEos (s.withBase base) = outcomeWithBase base (takeEos s) := by
  unfold takeEos
  rw [withBase_phase]
  cases s.phase with
  | hdr => exact congrArg Host.Outcome.next (ite_eq_apply_ite rfl rfl)
  | pay | pcrc | idle | emit | done | error | aborted => rfl

theorem takeSrcAnswer_withBase (a : SrcAnswer) :
    takeSrcAnswer a (s.withBase base) = outcomeWithBase base (takeSrcAnswer a s) := by
  cases a with
  | byte b => exact ite_eq_apply_ite (takeByte_withBase base s b) rfl
  | eos => exact ite_eq_apply_ite (takeEos_withBase base s) rfl

theorem takeAck_withBase (a : Ack) : takeAck a (s.withBase base) = (takeAck a s).withBase base := by
  cases a with
  | ok => exact ite_eq_apply_ite rfl rfl
  | err => rfl

/-! ### The moves of the agents -/

theorem lateAnswer_withBase (r : Request) (why : Refusal) :
    lateAnswer r why (s.withBase base) = outcomeWithBase base (lateAnswer r why s) :=
  ite_eq_apply_ite rfl rfl

theorem srcMove_withBase : srcMove (s.withBase base) = outcomeWithBase base (srcMove s) := by
  refine ite_eq_apply_ite ?_ (lateAnswer_withBase base s _ _)
  rw [withBase_nextByte]
  cases s.nextByte with
  | some given =>
    exact takeSrcAnswer_withBase base ({ s with stream := given.2 }.observe (.read (.byte given.1))) _
  | none => exact ite_eq_apply_ite (takeSrcAnswer_withBase base (s.observe (.read .eos)) _) rfl

theorem snkMove_withBase (a : Ack) : snkMove a (s.withBase base) = outcomeWithBase base (snkMove a s) := by
  refine ite_eq_apply_ite ?_ (lateAnswer_withBase base s _ _)
  rw [withBase_pending]
  cases s.pending with
  | some ev => exact congrArg Host.Outcome.next (takeAck_withBase base (s.observe (.put ev a)) a)
  | none => rfl

theorem hostWrite_withBase (off width : Nat) (v : Word) :
    hostWrite off width v (s.withBase base) = outcomeWithBase base (hostWrite off width v s) :=
  ite_eq_apply_ite (ite_eq_apply_ite (exec_withBase base (s.observe (.regW off v)) (decodeCtrl v)) rfl) rfl

theorem hostRead_withBase (off width : Nat) :
    hostRead off width (s.withBase base) = outcomeWithBase base (hostRead off width s) := by
  refine ite_eq_apply_ite ?_ rfl
  rw [withBase_registerAt]
  cases registerAt s off <;> rfl

/-- No move of an agent reads the base. -/
theorem move_withBase (i : Input) : move i (s.withBase base) = outcomeWithBase base (move i s) := by
  cases i with
  | src => exact srcMove_withBase base s
  | snk a => exact snkMove_withBase base s a
  | regWrite off width v => exact hostWrite_withBase base s off width v
  | regRead off width => exact hostRead_withBase base s off width
  | reset => rfl
  | connect bytes ends => exact ite_eq_apply_ite rfl rfl

/-- No step reads the base. -/
theorem step_withBase : step (s.withBase base) = outcomeWithBase base (step s) := by
  cases h : s.nextMove with
  | none => rw [step_waits h, step_waits (s := s.withBase base) h]; rfl
  | some next =>
    rw [step_moves h, step_moves (s := s.withBase base) h]
    exact move_withBase base { s with inputs := next.2 } next.1

end

/-- Settles O47: every move of an agent commutes with changing the base, so the step does. -/
theorem baseChangesNothing : Obligations.BaseChangesNothing := by
  unfold Obligations.BaseChangesNothing
  intro s base
  refine (step_withBase base s).trans ?_
  cases step s <;> rfl

end Sys2Proof.Machine
end

section
/-!
PROOFS. The registers and their reset values (R37 to R44, R55). STATUS as a number is the sum of its fields at their
places, so that each field is read off by arithmetic.
-/

namespace Sys2Proof.Machine

/-! ### Fields of a register -/

/-- A field put above those that end below it adds its value at its place. -/
theorem or_field_toNat {x y : Word} {k n : Nat} (hx : x.toNat = n) (hn : n < 2 ^ k) (hy : y.toNat * 2 ^ k < 2 ^ 32) :
    (x ||| y <<< k).toNat = n + y.toNat * 2 ^ k := by
  subst hx
  rw [BitVec.toNat_or, BitVec.toNat_shiftLeft, Nat.shiftLeft_eq, Nat.mod_eq_of_lt hy, Nat.or_comm,
    ← Nat.shiftLeft_eq, ← Nat.shiftLeft_add_eq_or_of_lt hn, Nat.add_comm]

theorem bit_lt (b : Bool) : (bit b).toNat < 2 := by cases b <;> decide

/-- Every field of STATUS fits its place (R23, R34, R38). -/
theorem statusFields_fit (s : State) :
    s.phase.code.toNat < 8 ∧ (bit s.mode.bit).toNat < 2 ∧ (bit s.endSeen).toNat < 2 ∧ (bit s.closed).toNat < 2 ∧
      (bit s.phase.busy).toNat < 2 ∧ s.errClass.code.toNat < 8 ∧ s.errWhere.code.toNat < 4 :=
  ⟨by cases s.phase <;> decide, bit_lt _, bit_lt _, bit_lt _, bit_lt _, by cases s.errClass <;> decide,
    by cases s.errWhere <;> decide⟩

/-- STATUS as a number: every field at its place, nothing at bit 7 and above bit 12 (R38). -/
theorem statusWord_toNat (s : State) : (statusWord s).toNat =
    s.phase.code.toNat + (bit s.mode.bit).toNat * 2 ^ 3 + (bit s.endSeen).toNat * 2 ^ 4 +
      (bit s.closed).toNat * 2 ^ 5 + (bit s.phase.busy).toNat * 2 ^ 6 + s.errClass.code.toNat * 2 ^ 8 +
      s.errWhere.code.toNat * 2 ^ 11 := by
  have fit := statusFields_fit s
  unfold statusWord
  refine or_field_toNat (or_field_toNat (or_field_toNat (or_field_toNat (or_field_toNat (or_field_toNat rfl
    ?_ ?_) ?_ ?_) ?_ ?_) ?_ ?_) ?_ ?_) ?_ ?_ <;> omega

/-! ### The register map -/

/-- Settles O32: each offset by the register map, CTRL by the code of ctrl_mode. -/
theorem registerMap : Obligations.RegisterMap := by
  unfold Obligations.RegisterMap
  intro s
  refine ⟨?_, rfl, rfl, rfl, rfl, fun off h => ?_⟩
  · simp only [registerAt, ctrlWord]
    cases s.ctrlMode <;> rfl
  · simp only [List.mem_cons, List.not_mem_nil, or_false, not_or] at h
    obtain ⟨h0, h4, h8, hC, h10⟩ := h
    unfold registerAt
    split
    · exact absurd rfl h0
    · exact absurd rfl h4
    · exact absurd rfl h8
    · exact absurd rfl hC
    · exact absurd rfl h10
    · rfl

/-- A write to a read-only register leaves STATUS (R56). -/
theorem status_after_write_to_status {s : State} {v : Word} {rest : Supply Input}
    (h : s.nextMove = some (.regWrite 0x04 32 v, rest)) : ∃ t, step s = .next t ∧ statusWord t = statusWord s :=
  ⟨_, step_moves h, rfl⟩

/-- Settles O33: STATUS is the sum of its fields at their places. -/
theorem statusFields : Obligations.StatusFields := by
  unfold Obligations.StatusFields
  intro s
  have fit := statusFields_fit s
  have sum := statusWord_toNat s
  have field (k w n : Nat) (h : (statusWord s).toNat / 2 ^ k % 2 ^ w = n) :
      ((statusWord s).extractLsb' k w).toNat = n := (extract_toNat _ _ _).trans h
  have flag (k : Nat) (b : Bool) (h : (statusWord s).toNat / 2 ^ k % 2 = (bit b).toNat) :
      (statusWord s).getLsbD k = b := by
    rw [bit_toNat, h]
    cases b <;> rfl
  refine ⟨?_, ?_, flag 4 _ (by omega), flag 5 _ (by omega), ?_, flag 7 false ?_, ?_, ?_, fun k hk => ?_, rfl,
    fun v rest => status_after_write_to_status, by decide⟩
  · rw [field 0 3 s.phase.code.toNat (by omega)]
    cases s.phase <;> rfl
  · rw [flag 3 s.mode.bit (by omega)]
    cases s.mode <;> decide
  · rw [flag 6 s.phase.busy (by omega)]
    cases s.phase <;> decide
  · rw [show (bit false).toNat = 0 from rfl]; omega
  · rw [field 8 3 s.errClass.code.toNat (by omega)]
    cases s.errClass <;> rfl
  · rw [field 11 2 s.errWhere.code.toNat (by omega)]
    cases s.errWhere <;> rfl
  · have : 2 ^ 13 ≤ 2 ^ k := Nat.pow_le_pow_right (by omega) hk
    exact Nat.testBit_lt_two_pow (by omega)

/-- Settles O34: every field by State.reset, every register by the register map. -/
theorem resetValues : Obligations.ResetValues := by
  unfold Obligations.ResetValues
  decide

end Sys2Proof.Machine
end

section
/-!
PROOFS. The invariant of the block holds at reset and every step keeps it. One lemma for each kind of state a step can
leave: a resting one, one that reads on, one that offers an event; the steps then show which of them they leave.
-/

namespace Sys2Proof.Machine

/-! ### Resting states -/

/-- The phases a session rests in are none of the busy ones (R23). -/
theorem Phase.of_busy_false {p : Phase} (h : p.busy = false) :
    p.reads = false ∧ p ≠ .hdr ∧ p ≠ .pay ∧ p ≠ .pcrc ∧ p ≠ .emit := by
  revert h
  cases p <;> decide

/-- The phases that read are busy ones, without EMIT (R20, R23). -/
theorem Phase.of_reads {p : Phase} (h : p.reads = true) :
    p.busy = true ∧ p.terminal = false ∧ p ≠ .emit ∧ p ≠ .error := by
  revert h
  cases p <;> decide

/-- The error fields read NONE and 0 (R236). -/
def State.NoError (s : State) : Prop :=
  s.errClass = .none ∧ s.errWhere = .none ∧ s.errInfo = 0#32 ∧ s.errCrc = 0#32

theorem State.Inv.noError {s : State} (I : s.Inv) (hp : s.phase ≠ .error) : s.NoError :=
  ⟨by simpa [hp] using I.errClass, I.errDetail hp⟩

/-- Outside a session the invariant asks for idx 0, nothing pending, and the release and error fields of the phase. -/
theorem inv_of_resting {s : State} (hb : s.phase.busy = false) (idx : s.idx = 0#32) (pending : s.pending = none)
    (closed : s.closed = s.phase.terminal) (errClass : s.errClass ≠ .none ↔ s.phase = .error)
    (errDetail : s.phase ≠ .error → s.NoError) (typeCode : s.TypeHeld) : s.Inv := by
  obtain ⟨hr, hhdr, hpay, hpcrc, hemit⟩ := Phase.of_busy_false hb
  exact {
    index := ⟨by unfold State.indexInField; split <;> trivial, fun _ => idx⟩
    pending := by simp [pending, hemit]
    closed := closed
    errClass := errClass
    errDetail := fun hp => (errDetail hp).2
    typeCode := typeCode
    headerCrc := fun hp => absurd hp hhdr
    header := fun hp => by simp [hpay, hpcrc, hemit] at hp
    payload := fun hp => absurd hp hpay
    wholeBody := fun hp => absurd hp hpcrc
    bodyCrc := fun hp => by simp [hpay, hpcrc] at hp
    validated := fun hp => absurd hp hemit
    endSeen := ⟨fun h => by simp [hr] at h, fun hp => absurd hp hemit⟩
    event := fun ev hev => by simp [pending] at hev
    withdrawn := fun h => by simp [hb] at h }

theorem inv_raise {s : State} {cls : ErrClass} (hc : cls ≠ .none) (wh : ErrWhere) (info crc : Word)
    (typeCode : s.TypeHeld) : (raise cls wh info crc s).Inv :=
  inv_of_resting rfl rfl rfl rfl (by simp [hc]) (by simp) typeCode

theorem inv_finishOk {s : State} (pending : s.pending = none) (noError : s.NoError) (typeCode : s.TypeHeld) :
    (finishOk s).Inv :=
  inv_of_resting rfl rfl pending rfl (by simp [noError.1]) (fun _ => noError) typeCode

theorem inv_resetBlock (s : State) : (resetBlock s).Inv :=
  inv_of_resting rfl rfl rfl rfl (by decide : ErrClass.none ≠ .none ↔ Phase.idle = .error)
    (fun _ => ⟨rfl, rfl, rfl, rfl⟩) ⟨(by decide : (0#32 : Word).toNat < 2 ^ 24), rfl⟩

/-- Settles O36: in IDLE the invariant asks for the reset values. -/
theorem resetMeetsInv : Obligations.ResetMeetsInv :=
  inv_resetBlock State.reset

/-! ### States that read -/

/-- What holds in every state in which a session reads, whatever the field (R31, R33, R160, R236). -/
structure State.Receiving (s : State) : Prop where
  pending   : s.pending = none
  closed    : s.closed = false
  noError   : s.NoError
  endSeen   : s.endSeen = false
  withdrawn : s.withdrawn = none
  typeCode  : s.TypeHeld

theorem State.Inv.receiving {s : State} (I : s.Inv) (hr : s.phase.reads = true) : s.Receiving := by
  obtain ⟨hb, ht, hemit, herror⟩ := Phase.of_reads hr
  exact {
    pending := by simpa [hemit] using I.pending
    closed := I.closed.trans ht
    noError := I.noError herror
    endSeen := I.endSeen.1 hr
    withdrawn := I.withdrawn hb
    typeCode := I.typeCode }

/-- Rewriting the fields a frame is read into keeps what every reading state has (R43). -/
theorem State.Receiving.of_rewrites {s u : State} (R : s.Receiving) (hu : s.RewritesFrame u) (ht : u.TypeHeld) :
    u.Receiving where
  pending := (congrArg State.pending hu).trans R.pending
  closed := (congrArg State.closed hu).trans R.closed
  noError := by rw [hu]; exact R.noError
  endSeen := (congrArg State.endSeen hu).trans R.endSeen
  withdrawn := (congrArg State.withdrawn hu).trans R.withdrawn
  typeCode := ht

/-- The header is held as long as its bytes and fields are (R27). -/
theorem State.HeaderHeld.of_fields {s u : State} (H : s.HeaderHeld)
    (h : (u.hbuf, u.version, u.typeRaw, u.plen, u.hcrc) = (s.hbuf, s.version, s.typeRaw, s.plen, s.hcrc)) :
    u.HeaderHeld := by
  simp only [Prod.mk.injEq] at h
  obtain ⟨hb, hv, ht, hl, hc⟩ := h
  exact ⟨by rw [hv, hb, H.version], by rw [ht, hb, H.typeRaw], by rw [hl, hb, H.plen], by rw [hc, hb, H.hcrc],
    by rw [hc, hb, H.verified]⟩

/-- A state that reads meets the invariant when idx lies in its field and the clauses of its phase hold. -/
theorem State.Receiving.inv {s : State} (R : s.Receiving) (hr : s.phase.reads = true)
    (index : s.indexInField = true)
    (headerCrc : s.phase = .hdr → s.crc = crcRegister (s.hbuf.toList.take (min s.idx.toNat 8)))
    (header : s.phase = .pay ∨ s.phase = .pcrc → s.HeaderHeld)
    (payload : s.phase = .pay → s.pbuf.length = s.idx.toNat)
    (wholeBody : s.phase = .pcrc → s.pbuf.length = s.plen.toNat ∧ 0 < s.plen.toNat)
    (bodyCrc : s.phase = .pay ∨ s.phase = .pcrc →
      s.crc = crcRegister s.pbuf ∧ s.plen.toNat ≤ s.params.payloadMax.toNat) : s.Inv := by
  obtain ⟨-, ht, he, hx⟩ := Phase.of_reads hr
  exact {
    index := ⟨index, by simp [hr]⟩
    pending := by simp [R.pending, he]
    closed := by rw [R.closed, ht]
    errClass := by simp [R.noError.1, hx]
    errDetail := fun _ => R.noError.2
    typeCode := R.typeCode
    headerCrc := headerCrc
    header := fun h => header (by simpa [he] using h)
    payload := payload
    wholeBody := wholeBody
    bodyCrc := bodyCrc
    validated := fun h => absurd h he
    endSeen := ⟨fun _ => R.endSeen, fun h => absurd h he⟩
    event := fun ev hev => by simp [R.pending] at hev
    withdrawn := fun _ => R.withdrawn }

theorem State.Receiving.inv_hdr {s : State} (R : s.Receiving) (hp : s.phase = .hdr) (index : s.idx.toNat ≤ 11)
    (headerCrc : s.crc = crcRegister (s.hbuf.toList.take (min s.idx.toNat 8))) : s.Inv :=
  R.inv (by simp [hp, Phase.reads]) (by simpa [State.indexInField, hp] using index) (fun _ => headerCrc)
    (by simp [hp]) (by simp [hp]) (by simp [hp]) (by simp [hp])

theorem State.Receiving.inv_pay {s : State} (R : s.Receiving) (hp : s.phase = .pay)
    (index : s.idx.toNat < s.plen.toNat) (header : s.HeaderHeld) (payload : s.pbuf.length = s.idx.toNat)
    (bodyCrc : s.crc = crcRegister s.pbuf ∧ s.plen.toNat ≤ s.params.payloadMax.toNat) : s.Inv :=
  R.inv (by simp [hp, Phase.reads]) (by simpa [State.indexInField, hp] using index) (by simp [hp])
    (fun _ => header) (fun _ => payload) (by simp [hp]) (fun _ => bodyCrc)

theorem State.Receiving.inv_pcrc {s : State} (R : s.Receiving) (hp : s.phase = .pcrc) (index : s.idx.toNat ≤ 3)
    (header : s.HeaderHeld) (wholeBody : s.pbuf.length = s.plen.toNat ∧ 0 < s.plen.toNat)
    (bodyCrc : s.crc = crcRegister s.pbuf ∧ s.plen.toNat ≤ s.params.payloadMax.toNat) : s.Inv :=
  R.inv (by simp [hp, Phase.reads]) (by simpa [State.indexInField, hp] using index) (by simp [hp])
    (fun _ => header) (by simp [hp]) (fun _ => wholeBody) (fun _ => bodyCrc)

theorem State.Receiving.inv_nextFrame {s : State} (R : s.Receiving) : (nextFrame s).Inv :=
  State.Receiving.inv_hdr (R.of_rewrites rfl R.typeCode) rfl (by simp) rfl

/-! ### The frame's operation -/

/-- The body of the frame is complete and checked, or there is none (R145, R238). -/
def State.BodyVerified (s : State) : Prop :=
  s.plen = 0#32 ∨ (s.pbuf.length = s.plen.toNat ∧ s.pcrc = crc32 s.pbuf)

/-- An event offered for a checked frame meets the invariant. -/
theorem State.Receiving.inv_offer {s : State} (R : s.Receiving) (H : s.HeaderHeld) (V : s.BodyVerified) {ev : Event}
    (hev : ev.wellFormed s.mode = true) : (offer ev (countFrame s.ptype s)).Inv where
  index := ⟨rfl, fun _ => rfl⟩
  pending := by simp
  closed := R.closed
  errClass := by simp [R.noError.1]
  errDetail _ := R.noError.2
  typeCode := R.typeCode
  headerCrc h := by simp at h
  header _ := H.of_fields rfl
  payload h := by simp at h
  wholeBody h := by simp at h
  bodyCrc h := by simp at h
  validated _ := V
  endSeen := ⟨by simp [Phase.reads], fun _ => by simp [R.endSeen]⟩
  event ev' h := by
    obtain rfl : ev = ev' := by simpa using h
    exact hev
  withdrawn _ := R.withdrawn

/-- The operation of a checked frame leaves a state of the invariant. -/
theorem State.Receiving.inv_frame {s t : State} (R : s.Receiving) (H : s.HeaderHeld) (V : s.BodyVerified)
    (e : exec s.frameInstr s = .next t) : t.Inv := by
  obtain ⟨hlt, hres⟩ := R.typeCode
  obtain ⟨t', e', fx⟩ := exec_frame _ s.ptype (by rw [hres]; exact frameType_frameInstr s hlt) s
  obtain rfl : t' = t := by simpa [e'] using e
  cases fx with
  | shortOffset info => exact inv_raise (by simp) _ _ _ R.typeCode
  | offered ev hev => exact R.inv_offer H V (hev (by rw [hres, code_resolve]; exact hlt))
  | absorbed h =>
    exact State.Receiving.inv_nextFrame
      ⟨R.pending, R.closed, R.noError, by simp [h, R.endSeen], R.withdrawn, R.typeCode⟩
  | ended h => exact inv_finishOk R.pending R.noError R.typeCode
  | rejected r h => exact inv_raise (by simp) _ _ _ R.typeCode

/-! ### SRC's answer -/

theorem word_succ_toNat {w : Word} {n : Nat} (h : w.toNat < n) (hn : n < 2 ^ 32) : (w + 1#32).toNat = w.toNat + 1 := by
  rw [BitVec.toNat_add, BitVec.toNat_ofNat]; omega

/-- Storing the next item of a buffer, and taking what is then filled. -/
theorem take_succ_set {α : Type} {l : List α} {i : Nat} (h : i < l.length) (a : α) :
    (l.set i a).take (i + 1) = l.take i ++ [a] := by
  rw [List.take_add_one, List.take_set_of_le (Nat.le_refl i), List.getElem?_set_self h]; rfl

theorem crcRegister_concat (bytes : List Byte) (b : Byte) :
    crcRegister (bytes ++ [b]) = crcStep (crcRegister bytes) b := by
  simp [crcRegister]

/-- Storing a header byte keeps the CRC register over the header bytes received, up to byte 7 (R106, R120). -/
theorem storeHeaderByte_crc_covers {s : State} (b : Byte) (hi : s.idx.toNat ≤ 11)
    (h : s.crc = crcRegister (s.hbuf.toList.take (min s.idx.toNat 8))) :
    (storeHeaderByte b s).crc = crcRegister ((storeHeaderByte b s).hbuf.toList.take (min (s.idx.toNat + 1) 8)) := by
  rw [storeHeaderByte_crc, storeHeaderByte_hbuf, Vector.toList_setIfInBounds]
  split
  · rw [Nat.min_eq_left (by omega), take_succ_set (by simp; omega), crcRegister_concat, h, Nat.min_eq_left (by omega)]
  · rw [Nat.min_eq_right (by omega), List.take_set_of_le (by omega), h, Nat.min_eq_right (by omega)]

/-- Once the header check has passed, an empty frame is completed, one too long is turned away, and any other is read
(R127 to R129). -/
theorem afterHeaderCheck_inv {s t : State} (R : s.Receiving) (H : s.HeaderHeld) (e : afterHeaderCheck s = .next t) :
    t.Inv := by
  unfold afterHeaderCheck at e
  split at e
  · exact R.inv_frame H (.inl ‹_›) e
  · rename_i hne
    split at e
    · obtain rfl : _ = t := by simpa using e
      exact inv_raise (by simp) _ _ _ R.typeCode
    · rename_i hle
      obtain rfl : _ = t := by simpa using e
      have hpos : s.plen.toNat ≠ 0 := fun h => hne (BitVec.eq_of_toNat_eq h)
      exact State.Receiving.inv_pay (R.of_rewrites rfl R.typeCode) rfl (by simp; omega) (H.of_fields rfl) rfl
        ⟨rfl, by simpa using hle⟩

theorem headerByte_inv {s t : State} {b : Byte} (I : s.Inv) (hp : s.phase = .hdr) (e : headerByte b s = .next t) :
    t.Inv := by
  have R := I.receiving (by simp [hp, Phase.reads])
  have hi : s.idx.toNat ≤ 11 := by simpa [State.indexInField, hp] using I.index.1
  have hc := storeHeaderByte_crc_covers b hi (I.headerCrc hp)
  unfold headerByte at e
  split at e
  · rename_i hlt
    obtain rfl : _ = t := by simpa using e
    have hn := word_succ_toNat hlt (by decide)
    exact State.Receiving.inv_hdr (R.of_rewrites rfl R.typeCode) hp
      (by dsimp only; omega) (by dsimp only; rw [hn]; exact hc)
  · rw [show min (s.idx.toNat + 1) 8 = 8 by omega] at hc
    have R' : (latchHeader (storeHeaderByte b s)).Receiving := R.of_rewrites rfl ⟨headerType_lt _, rfl⟩
    have H : crcFinal (latchHeader (storeHeaderByte b s)).crc = (latchHeader (storeHeaderByte b s)).hcrc →
        (latchHeader (storeHeaderByte b s)).HeaderHeld :=
      fun h => ⟨rfl, rfl, rfl, rfl, by rw [← h, latchHeader_crc, hc]; rfl⟩
    unfold headerComplete at e
    generalize latchHeader (storeHeaderByte b s) = u at *
    obtain ⟨hv, e'⟩ | ⟨-, e'⟩ := crcCheck_eq u.hcrc .header u afterHeaderCheck <;> rw [e'] at e
    · exact afterHeaderCheck_inv R' (H hv) e
    · obtain rfl : _ = t := by simpa using e
      exact inv_raise (by simp) _ _ _ R'.typeCode

theorem payloadByte_inv {s : State} (b : Byte) (I : s.Inv) (hp : s.phase = .pay) : (payloadByte b s).Inv := by
  have R := I.receiving (by simp [hp, Phase.reads])
  have hi : s.idx.toNat < s.plen.toNat := by simpa [State.indexInField, hp] using I.index.1
  have H := I.header (.inl hp)
  have hl := I.payload hp
  obtain ⟨hc, hm⟩ := I.bodyCrc (.inl hp)
  have hc' : crcStep s.crc b = crcRegister (s.pbuf ++ [b]) := by rw [crcRegister_concat, hc]
  unfold payloadByte
  dsimp only
  split
  · rename_i hlt
    have hn := word_succ_toNat hi s.plen.isLt
    exact State.Receiving.inv_pay (R.of_rewrites rfl R.typeCode) hp
      (by simp [hn]; omega) (H.of_fields rfl) (by simp [hn, hl]) ⟨hc', hm⟩
  · exact State.Receiving.inv_pcrc (R.of_rewrites rfl R.typeCode) rfl
      (by simp) (H.of_fields rfl) (by simp; omega) ⟨hc', hm⟩

theorem checksumByte_inv {s t : State} {b : Byte} (I : s.Inv) (hp : s.phase = .pcrc)
    (e : checksumByte b s = .next t) : t.Inv := by
  have R := I.receiving (by simp [hp, Phase.reads])
  have H := I.header (.inr (.inl hp))
  have hw := I.wholeBody hp
  have hc := I.bodyCrc (.inr hp)
  unfold checksumByte at e
  split at e
  · rename_i hlt
    obtain rfl : _ = t := by simpa using e
    have hn := word_succ_toNat hlt (by decide)
    exact State.Receiving.inv_pcrc (R.of_rewrites rfl R.typeCode) hp
      (by dsimp only; omega) (H.of_fields rfl) hw hc
  · have R' : (latchChecksum (storeChecksumByte b s)).Receiving := R.of_rewrites rfl R.typeCode
    have H' : (latchChecksum (storeChecksumByte b s)).HeaderHeld := H.of_fields rfl
    have V : crcFinal (latchChecksum (storeChecksumByte b s)).crc = (latchChecksum (storeChecksumByte b s)).pcrc →
        (latchChecksum (storeChecksumByte b s)).BodyVerified :=
      fun h => .inr ⟨hw.1, by rw [← h, latchChecksum_crc, storeChecksumByte_crc, hc.1]; rfl⟩
    unfold payloadCheck at e
    generalize latchChecksum (storeChecksumByte b s) = u at *
    obtain ⟨hv, e'⟩ | ⟨-, e'⟩ := crcCheck_eq u.pcrc .payload u (fun checked => exec checked.frameInstr checked)
    · rw [e'] at e
      exact R'.inv_frame H' (V hv) e
    · rw [e'] at e
      obtain rfl : _ = t := by simpa using e
      exact inv_raise (by simp) _ _ _ R'.typeCode

theorem headerEos_inv {s : State} (R : s.Receiving) : (headerEos s).Inv := by
  unfold headerEos
  split
  · exact inv_finishOk R.pending R.noError R.typeCode
  · exact inv_raise (by simp) _ _ _ R.typeCode

/-- BLOCK's step on SRC's answer keeps the invariant. -/
theorem takeSrcAnswer_inv {s t : State} {a : SrcAnswer} (I : s.Inv) (e : takeSrcAnswer a s = .next t) : t.Inv := by
  have hr := (takeSrcAnswer_effect e).1
  have R := I.receiving hr
  simp only [takeSrcAnswer, I.index.1, if_true] at e
  cases a with
  | byte b =>
    cases hp : s.phase <;> simp only [takeByte, hp, reduceCtorEq, Host.Outcome.next.injEq] at e
    case hdr => exact headerByte_inv I hp e
    case pay => exact e ▸ payloadByte_inv b I hp
    case pcrc => exact checksumByte_inv I hp e
  | eos =>
    cases hp : s.phase <;> simp only [takeEos, hp, reduceCtorEq, Host.Outcome.next.injEq] at e
    case hdr => exact e ▸ headerEos_inv R
    case pay => exact e ▸ inv_raise (by simp) _ _ _ R.typeCode
    case pcrc => exact e ▸ inv_raise (by simp) _ _ _ R.typeCode

/-! ### The sink's answer and the commands -/

/-- BLOCK's step on SNK's answer keeps the invariant: after OK the next header is read only when no END frame was
offered (R154, R157). -/
theorem takeAck_inv {s : State} (a : Ack) (I : s.Inv) (hp : s.phase = .emit) : (takeAck a s).Inv := by
  have hn := I.noError (by simp [hp])
  cases a with
  | err => exact inv_raise (by simp) _ _ _ I.typeCode
  | ok =>
    simp only [takeAck, emitAckOk]
    split
    · exact inv_finishOk rfl hn I.typeCode
    · rename_i hend
      have hs : s.endSeen = false := by simpa [hend] using I.endSeen.2 hp
      exact State.Receiving.inv_nextFrame ⟨rfl, by rw [I.closed, hp]; rfl, hn, hs,
        I.withdrawn (by rw [hp]; rfl), I.typeCode⟩

/-- The write of ctrl_mode and the forgetting of a request outside a session keep the invariant. -/
theorem inv_outside {s : State} (I : s.Inv) (m : Mode) {w : Option Request} (hw : w = s.withdrawn ∨ w = none) :
    ({ s with ctrlMode := m, withdrawn := w } : State).Inv where
  index := I.index
  pending := I.pending
  closed := I.closed
  errClass := I.errClass
  errDetail := I.errDetail
  typeCode := I.typeCode
  headerCrc := I.headerCrc
  header h := (I.header h).of_fields rfl
  payload := I.payload
  wholeBody := I.wholeBody
  bodyCrc := I.bodyCrc
  validated := I.validated
  endSeen := I.endSeen
  event := I.event
  withdrawn h := hw.elim (fun e => e.trans (I.withdrawn h)) id

theorem commandEffect_inv {m : Mode} {i : Instr} {s t : State} (I : s.Inv) (fx : CommandEffect m i s t) : t.Inv := by
  cases fx with
  | started r hi hp =>
    exact State.Receiving.inv_hdr ⟨rfl, rfl, ⟨rfl, rfl, rfl, rfl⟩, rfl, rfl, I.typeCode⟩ rfl (by simp) rfl
  | cancelled st r hi hp =>
    have hn := I.noError (by rintro h; simp [h, Phase.busy] at hp)
    exact inv_of_resting rfl rfl rfl rfl (by simp [hn.1]) (fun _ => hn) I.typeCode
  | wrote => exact inv_outside I m (.inl rfl)

/-! ### The step -/

/-- Settles O37: the moves of the agents are taken in states of the invariant, and each move keeps it. -/
theorem stepKeepsInv : Obligations.StepKeepsInv := by
  unfold Obligations.StepKeepsInv
  intro s t I e
  cases step_effect e with
  | waits => exact I
  | srcWaits rest => exact inv_agents I _ _ _ rest
  | @gaveByte b bytes rest _ _ _ e' => exact takeSrcAnswer_inv (inv_agents I _ bytes _ rest) e'
  | @gaveEos rest _ _ _ e' => exact takeSrcAnswer_inv (inv_agents I _ _ _ rest) e'
  | late i rest => exact inv_agents (inv_outside I s.ctrlMode (.inr rfl)) _ _ _ rest
  | acked a ev rest _ hp => exact takeAck_inv a (inv_agents I _ _ _ rest) hp
  | command v rest _ fx => exact commandEffect_inv (inv_agents I _ _ _ rest) fx
  | accessed i rest o => exact inv_agents I _ _ _ rest
  | wasReset => exact inv_resetBlock _
  | connected bytes ends rest => exact inv_agents I _ bytes ends rest

end Sys2Proof.Machine
end

section
/-!
PROOFS. What a step adds to the history and does to CLOSED, and when the running mode changes (R33, R46, R186, R237).
Each is read off the effects of Laws/Step: BLOCK's own part in a step leaves the history or runs CLOSE, and leaves the
mode.
-/

namespace Sys2Proof.Machine

/-! ### BLOCK's own part in a step -/

/-- From s to t BLOCK leaves the history and CLOSED, or it runs CLOSE (R186). -/
def State.LeavesOrCloses (s t : State) : Prop :=
  (t.history = s.history ∧ t.closed = s.closed) ∨ (t.history = s.historyClosed ∧ t.closed = true)

theorem frameEffect_leavesOrCloses {p : PType} {s t : State} (fx : FrameEffect p s t) : s.LeavesOrCloses t := by
  cases fx with
  | shortOffset => exact .inr ⟨rfl, rfl⟩
  | offered => exact .inl ⟨rfl, rfl⟩
  | absorbed => exact .inl ⟨rfl, rfl⟩
  | ended => exact .inr ⟨rfl, rfl⟩
  | rejected => exact .inr ⟨rfl, rfl⟩

theorem frameEffect_mode {p : PType} {s t : State} (fx : FrameEffect p s t) : t.mode = s.mode := by
  cases fx <;> rfl

/-- Rewriting the fields a frame is read into is no part of the history. -/
theorem State.LeavesOrCloses.of_rewrites {s u t : State} (hu : s.RewritesFrame u) (h : u.LeavesOrCloses t) :
    s.LeavesOrCloses t := by
  rw [hu] at h
  exact h

theorem answerEffect_leavesOrCloses {s t : State} (fx : AnswerEffect s t) : s.LeavesOrCloses t := by
  cases fx with
  | readsOn hu => exact .of_rewrites hu (.inl ⟨rfl, rfl⟩)
  | ended => exact .inr ⟨rfl, rfl⟩
  | raised hu => exact .of_rewrites hu (.inr ⟨rfl, rfl⟩)
  | completed hu p _ ht => exact .of_rewrites hu (frameEffect_leavesOrCloses ht)

theorem State.RewritesFrame.mode_eq {s u : State} (hu : s.RewritesFrame u) : u.mode = s.mode := by rw [hu]

theorem answerEffect_mode {s t : State} (fx : AnswerEffect s t) : t.mode = s.mode := by
  cases fx with
  | readsOn hu => exact hu.mode_eq
  | ended => rfl
  | raised hu => exact hu.mode_eq
  | completed hu p _ ht => exact (frameEffect_mode ht).trans hu.mode_eq

theorem takeAck_leavesOrCloses (a : Ack) (s : State) : s.LeavesOrCloses (takeAck a s) := by
  cases a with
  | err => exact .inr ⟨rfl, rfl⟩
  | ok =>
    simp only [takeAck, emitAckOk]
    split
    · exact .inr ⟨rfl, rfl⟩
    · exact .inl ⟨rfl, rfl⟩

theorem takeAck_mode (a : Ack) (s : State) : (takeAck a s).mode = s.mode := by
  cases a with
  | err => rfl
  | ok =>
    simp only [takeAck, emitAckOk]
    split <;> rfl

/-! ### The step -/

/-- What a step adds to the history and does to CLOSED: the agents' entries come first, then the Close of a session that
is released; CLOSED is cleared by START and reset alone (R33, R46, R186; log entry 15). -/
inductive HistoryEffect (s t : State) : Prop where
  | left (seen : List Obs) (hs : .close ∉ seen) (hh : t.history = s.history ++ seen) (hc : t.closed = s.closed)
  | released (seen : List Obs) (hs : .close ∉ seen)
      (hh : t.history = s.history ++ (seen ++ if s.closed then [] else [.close])) (hc : t.closed = true)
  | reopened (seen : List Obs) (hs : .close ∉ seen) (hh : t.history = s.history ++ seen) (hc : t.closed = false)
      (hi : startComes s ∨ resetComes s)

/-- BLOCK's own part after an agent's entry. -/
theorem State.LeavesOrCloses.historyEffect {s u t : State} {o : Obs} (h : u.LeavesOrCloses t) (ho : o ≠ .close)
    (hh : u.history = s.history ++ [o]) (hc : u.closed = s.closed) : HistoryEffect s t := by
  have hs : Obs.close ∉ [o] := by simpa using ho.symm
  obtain ⟨h1, h2⟩ | ⟨h1, h2⟩ := h
  · exact .left [o] hs (h1.trans hh) (h2.trans hc)
  · refine .released [o] hs ?_ h2
    rw [h1, State.historyClosed, hh, hc]
    split <;> simp

/-- What any step adds to the history and does to CLOSED. -/
theorem step_historyEffect {s t : State} (e : step s = .next t) : HistoryEffect s t := by
  have nothing {u : State} (hh : u.history = s.history) (hc : u.closed = s.closed) : HistoryEffect s u :=
    .left [] (by simp) (by simpa using hh) hc
  cases step_effect e with
  | waits => exact nothing rfl rfl
  | srcWaits => exact nothing rfl rfl
  | gaveByte _ _ e' =>
    exact (answerEffect_leavesOrCloses (takeSrcAnswer_effect e').2).historyEffect (by simp) rfl rfl
  | gaveEos _ _ e' =>
    exact (answerEffect_leavesOrCloses (takeSrcAnswer_effect e').2).historyEffect (by simp) rfl rfl
  | late => exact nothing rfl rfl
  | acked a ev rest => exact (takeAck_leavesOrCloses a _).historyEffect (by simp) rfl rfl
  | command v rest h fx =>
    cases fx with
    | started r hi => exact .reopened [.regW 0x00 v] (by simp) rfl rfl (.inl ⟨v, _, r, rest, h, hi⟩)
    | cancelled => exact State.LeavesOrCloses.historyEffect (o := .regW 0x00 v) (.inr ⟨rfl, rfl⟩) (by simp) rfl rfl
    | wrote => exact .left [.regW 0x00 v] (by simp) rfl rfl
  | accessed i rest o _ _ ho => exact .left [o] (by obtain ⟨off, v, rfl | rfl⟩ := ho <;> simp) rfl rfl
  | wasReset rest h => exact .reopened [] (by simp) (by simp) rfl (.inr ⟨rest, h⟩)
  | connected => exact nothing rfl rfl

/-- Settles O41: each kind of step only adds entries at the end. -/
theorem historyIsAppendOnly : Obligations.HistoryIsAppendOnly := by
  unfold Obligations.HistoryIsAppendOnly
  intro s t e
  cases step_historyEffect e with
  | left seen _ hh => exact ⟨_, hh.symm⟩
  | released seen _ hh => exact ⟨_, hh.symm⟩
  | reopened seen _ hh => exact ⟨_, hh.symm⟩

/-- A step adds one Close exactly when it sets CLOSED (R186). -/
theorem closeCount_step {s t : State} (e : step s = .next t) :
    closeCount t.history = closeCount s.history + (if s.closed = false ∧ t.closed = true then 1 else 0) := by
  have none {seen : List Obs} (hs : .close ∉ seen) : seen.count .close = 0 := List.count_eq_zero.2 hs
  cases step_historyEffect e with
  | left seen hs hh hc => cases h : s.closed <;> simp [closeCount, hh, none hs, hc, h]
  | released seen hs hh hc => cases h : s.closed <;> simp [closeCount, hh, none hs, hc, h]
  | reopened seen hs hh hc => simp [closeCount, hh, none hs, hc]

/-- Settles O39: the count by the step's effect on the history, the release on entry to a terminal phase by the
invariant before and after the step. -/
theorem closeIsIssuedOnce : Obligations.CloseIsIssuedOnce := by
  unfold Obligations.CloseIsIssuedOnce
  intro s t I e
  have J : t.Inv := stepKeepsInv s t I e
  refine ⟨closeCount_step e, fun hs ht => ⟨I.closed.trans hs, J.closed.trans ht⟩, fun hs ht => ?_⟩
  cases step_historyEffect e with
  | left _ _ _ hc => simp [hs, ht] at hc
  | released _ _ _ hc => simp [ht] at hc
  | reopened _ _ _ _ hi => exact hi

/-- Settles O44: of all a step can do, START outside a session and reset alone write the mode. -/
theorem modeIsLatchedAtStart : Obligations.ModeIsLatchedAtStart := by
  unfold Obligations.ModeIsLatchedAtStart
  intro s t e hm
  cases step_effect e with
  | waits => exact absurd rfl hm
  | srcWaits => exact absurd rfl hm
  | gaveByte _ _ e' => exact absurd (answerEffect_mode (takeSrcAnswer_effect e').2) hm
  | gaveEos _ _ e' => exact absurd (answerEffect_mode (takeSrcAnswer_effect e').2) hm
  | late => exact absurd rfl hm
  | acked a => exact absurd (takeAck_mode a _) hm
  | command v rest h fx =>
    cases fx with
    | started r hi hp => exact .inr ⟨hp, ⟨v, _, r, rest, h, hi⟩, rfl, rfl⟩
    | cancelled => exact absurd rfl hm
    | wrote => exact absurd rfl hm
  | accessed => exact absurd rfl hm
  | wasReset rest h => exact .inl ⟨rest, h⟩
  | connected => exact absurd rfl hm

end Sys2Proof.Machine
end

section
/-!
PROOFS. No rule reads a per-frame field before it has been written in the current phase (R43). Two states that agree on
every other field differ by a replacement of the per-frame fields, which every update of the model commutes with by its
definition; what is left to show is that no guard sees a field not yet written.
-/

namespace Sys2Proof.Machine

/-! ### States that differ in their per-frame fields -/

/-- The state s with the per-frame fields of x. -/
def State.withFrameOf (s x : State) : State :=
  { s with
    hbuf := x.hbuf, version := x.version, typeRaw := x.typeRaw, ptype := x.ptype, plen := x.plen, hcrc := x.hcrc,
    crc := x.crc, pbuf := x.pbuf, pcbuf := x.pcbuf, pcrc := x.pcrc }

/-- States that agree once their per-frame fields are forgotten differ by a replacement of these fields. -/
theorem exists_withFrameOf {s t : State} (h : s.forgetFrame = t.forgetFrame) : ∃ x, t = s.withFrameOf x :=
  ⟨t, (congrArg (fun u => u.withFrameOf t) h.symm : t.forgetFrame.withFrameOf t = s.forgetFrame.withFrameOf t)⟩

/-- The registers show no per-frame field (R37 to R41). -/
theorem registerAt_forgetFrame (s : State) (off : Nat) : registerAt s.forgetFrame off = registerAt s off := by
  unfold registerAt
  split <;> rfl

section
variable {s t : State}

/-- While nothing is read and no event is pending, no per-frame field counts. -/
theorem sameWritten_of_resting (rest : s.forgetFrame = t.forgetFrame) (hb : s.phase.busy = false) :
    s.SameWritten t := by
  obtain ⟨hr, hhdr, hpay, hpcrc, hemit⟩ := Phase.of_busy_false hb
  exact {
    rest := rest
    crc := fun h => by simp [hr] at h
    hbuf := fun hp => absurd hp hhdr
    header := fun hp => by simp [hpay, hpcrc] at hp
    pcbuf := fun hp => absurd hp hpcrc
    ptype := fun hp => absurd hp hemit }

theorem sameWritten_of_emit (rest : s.forgetFrame = t.forgetFrame) (hp : s.phase = .emit)
    (ptype : s.ptype = t.ptype) : s.SameWritten t where
  rest := rest
  crc h := by simp [hp, Phase.reads] at h
  hbuf h := by simp [hp] at h
  header h := by simp [hp] at h
  pcbuf h := by simp [hp] at h
  ptype _ := ptype

theorem sameWritten_of_hdr (rest : s.forgetFrame = t.forgetFrame) (hp : s.phase = .hdr) (crc : s.crc = t.crc)
    (hbuf : s.hbuf.toList.take s.idx.toNat = t.hbuf.toList.take s.idx.toNat) : s.SameWritten t where
  rest := rest
  crc _ := crc
  hbuf _ := hbuf
  header h := by simp [hp] at h
  pcbuf h := by simp [hp] at h
  ptype h := by simp [hp] at h

/-- A fresh header asks for the CRC register alone. -/
theorem sameWritten_nextFrame (rest : s.forgetFrame = t.forgetFrame) : (nextFrame s).SameWritten (nextFrame t) := by
  obtain ⟨x, rfl⟩ := exists_withFrameOf rest
  exact sameWritten_of_hdr rfl rfl rfl rfl

/-- The field ctrl_mode, the history and the agents around the block have no part in what is written of a frame. -/
theorem State.SameWritten.with_agents (H : s.SameWritten t) (m : Mode) (history : List Obs) (stream : Supply Byte)
    (ends : Bool) (inputs : Supply Input) (withdrawn : Option Request) :
    ({ s with
        ctrlMode := m, history := history, stream := stream, streamEnds := ends, inputs := inputs,
        withdrawn := withdrawn } : State).SameWritten
      { t with
        ctrlMode := m, history := history, stream := stream, streamEnds := ends, inputs := inputs,
        withdrawn := withdrawn } := by
  obtain ⟨x, rfl⟩ := exists_withFrameOf H.rest
  exact ⟨rfl, H.crc, H.hbuf, H.header, H.pcbuf, H.ptype⟩

theorem State.SameWritten.observe (H : s.SameWritten t) (o : Obs) : (s.observe o).SameWritten (t.observe o) := by
  obtain ⟨x, rfl⟩ := exists_withFrameOf H.rest
  exact H.with_agents s.ctrlMode (s.history ++ [o]) s.stream s.streamEnds s.inputs s.withdrawn

/-! ### Guards -/

/-- Two choices are related when their guards agree and their branches are related. -/
theorem rel_ite {α : Type} {r : α → α → Prop} {c c' : Prop} [Decidable c] [Decidable c'] {a b a' b' : α}
    (hc : c ↔ c') (ha : c → r a a') (hb : ¬c → r b b') : r (if c then a else b) (if c' then a' else b') := by
  by_cases h : c
  · simpa [h, ← hc] using ha h
  · simpa [h, ← hc] using hb h

/-- CRC_CHECK compares the register with the declared value, and shows both when it raises (R105, R201). -/
theorem sameOutcome_crcCheck {d d' : Word} (wh : ErrWhere) {k : State → Host.Outcome State Fault Refusal}
    (rest : s.forgetFrame = t.forgetFrame) (hd : d = d') (hc : s.crc = t.crc) (hk : sameOutcome (k s) (k t)) :
    sameOutcome (crcCheck d wh s k) (crcCheck d' wh t k) := by
  subst hd
  unfold crcCheck
  rw [← hc]
  refine rel_ite Iff.rfl (fun _ => hk) fun _ => sameWritten_of_resting ?_ rfl
  obtain ⟨x, rfl⟩ := exists_withFrameOf rest
  rfl

/-! ### The frame operations -/

/-- s and t hold the same frame: the latched header fields, and the body and its checksum where there is a body. -/
structure State.SameFrame (s t : State) : Prop where
  version  : s.version = t.version
  typeRaw  : s.typeRaw = t.typeRaw
  ptype    : s.ptype = t.ptype
  plen     : s.plen = t.plen
  hcrc     : s.hcrc = t.hcrc
  pbuf     : s.plen ≠ 0#32 → s.pbuf = t.pbuf
  pcrc     : s.plen ≠ 0#32 → s.pcrc = t.pcrc

theorem State.SameFrame.body_eq (F : s.SameFrame t) : s.body = t.body := by
  unfold State.body
  rw [← F.plen]
  split
  · rfl
  · rw [F.pbuf ‹_›]

theorem State.SameFrame.bodyChecksum_eq (F : s.SameFrame t) : s.bodyChecksum = t.bodyChecksum := by
  unfold State.bodyChecksum
  rw [← F.plen]
  split
  · rfl
  · rw [F.pcrc ‹_›]

/-- A frame's action reads the mode and the frame, and the event it offers waits with the type (R170 to R175). -/
theorem sameWritten_frameAction (f : Frame) {act : Frame → State → State}
    (h : act ∈ [actRecord, actException, actStats, actContinuation, actEnd, actUnknown])
    (rest : s.forgetFrame = t.forgetFrame) (ptype : s.ptype = t.ptype) : (act f s).SameWritten (act f t) := by
  obtain ⟨x, rfl⟩ := exists_withFrameOf rest
  have hm : (s.withFrameOf x).mode = s.mode := rfl
  have offered (ev : Event) : (offer ev s).SameWritten (offer ev (s.withFrameOf x)) :=
    sameWritten_of_emit rfl rfl ptype
  simp only [List.mem_cons, List.not_mem_nil, or_false] at h
  cases hs : s.mode with
  | decode =>
    obtain rfl | rfl | rfl | rfl | rfl | rfl := h <;>
      simp only [actRecord, actException, actStats, actContinuation, actEnd, actUnknown, hm, hs] <;> exact offered _
  | dispatch =>
    obtain rfl | rfl | rfl | rfl | rfl | rfl := h <;>
      simp only [actRecord, actException, actStats, actContinuation, actEnd, actUnknown, hm, hs]
    · exact offered _
    · exact offered _
    · exact offered _
    · exact sameWritten_nextFrame rest
    · exact sameWritten_of_resting rfl rfl
    · exact sameWritten_of_resting rfl rfl

/-- FRAME_COMPLETE reads the frame and the parameters (R145). -/
theorem sameWritten_completeFrame (v : Byte) (p : PType) {act : Frame → State → State}
    (h : act ∈ [actRecord, actException, actStats, actContinuation, actEnd, actUnknown])
    (rest : s.forgetFrame = t.forgetFrame) (F : s.SameFrame t) :
    (completeFrame v p act s).SameWritten (completeFrame v p act t) := by
  obtain ⟨x, rfl⟩ := exists_withFrameOf rest
  have hb (o d : Option (List Byte)) : s.buildFrame v p o d = (s.withFrameOf x).buildFrame v p o d := by
    simp only [State.buildFrame, F.plen, F.hcrc, F.bodyChecksum_eq]
  have hs : (s.withFrameOf x).params = s.params := rfl
  unfold completeFrame
  rw [hs, ← F.body_eq]
  cases split s.params.shortOffset p s.body with
  | short len => exact sameWritten_of_resting rfl rfl
  | parts o d =>
    dsimp only
    rw [← hb]
    exact sameWritten_frameAction _ h rfl F.ptype

/-- The operation of the same frame is the same, and does the same (R145, R152). -/
theorem State.SameFrame.sameOutcome_exec (F : s.SameFrame t) (rest : s.forgetFrame = t.forgetFrame) :
    sameOutcome (exec s.frameInstr s) (exec t.frameInstr t) := by
  have hi : t.frameInstr = s.frameInstr := by
    simp only [State.frameInstr, State.latchedW0, F.version, F.typeRaw]
  obtain ⟨p, hp⟩ : ∃ p, frameType s.frameInstr = some p := frameType_decodeW0 _
  rw [hi]
  generalize s.frameInstr = i at hp
  cases i with
  | frameRecord v => exact sameWritten_completeFrame v _ (by simp) rest F
  | frameException v => exact sameWritten_completeFrame v _ (by simp) rest F
  | frameStats v => exact sameWritten_completeFrame v _ (by simp) rest F
  | frameContinuation v => exact sameWritten_completeFrame v _ (by simp) rest F
  | frameEnd v => exact sameWritten_completeFrame v _ (by simp) rest F
  | frameUnknown v c => exact sameWritten_completeFrame v _ (by simp) rest F
  | cmdStart | cmdAbort | cmdNop => cases hp

/-! ### BLOCK's steps -/

/-- Once the header check has passed the latched fields decide, and the body buffer begins empty (R127 to R129). -/
theorem sameOutcome_afterHeaderCheck (rest : s.forgetFrame = t.forgetFrame) (hv : s.version = t.version)
    (ht : s.typeRaw = t.typeRaw) (hp : s.ptype = t.ptype) (hl : s.plen = t.plen) (hc : s.hcrc = t.hcrc) :
    sameOutcome (afterHeaderCheck s) (afterHeaderCheck t) := by
  unfold afterHeaderCheck
  rw [← hl]
  refine rel_ite Iff.rfl (fun h0 => ?_) fun _ => ?_
  · exact State.SameFrame.sameOutcome_exec ⟨hv, ht, hp, hl, hc, (absurd h0 ·), (absurd h0 ·)⟩ rest
  · obtain ⟨x, rfl⟩ := exists_withFrameOf rest
    refine rel_ite Iff.rfl (fun _ => sameWritten_of_resting rfl rfl) fun _ => ?_
    exact ⟨rfl, fun _ => rfl, by simp, fun _ => ⟨hv, ht, hp, hl, hc, rfl⟩, by simp, by simp⟩

/-- A buffer filled to its last item holds the same items when what stood before them did. -/
theorem setIfInBounds_last_eq {n i : Nat} {u v : Vector Byte n} (hi : i + 1 = n)
    (h : u.toList.take i = v.toList.take i) (b : Byte) : u.setIfInBounds i b = v.setIfInBounds i b := by
  have full (w : Vector Byte n) : (w.setIfInBounds i b).toList = w.toList.take i ++ [b] := by
    rw [← take_succ_set (by simp; omega) b, Vector.toList_setIfInBounds, List.take_of_length_le (by simp; omega)]
  rw [← Vector.toList_inj, full, full, h]

theorem sameOutcome_headerByte (b : Byte) (H : s.SameWritten t) (hp : s.phase = .hdr) (hi : s.idx.toNat ≤ 11) :
    sameOutcome (headerByte b s) (headerByte b t) := by
  obtain ⟨x, rfl⟩ := exists_withFrameOf H.rest
  have hb : s.hbuf.toList.take s.idx.toNat = x.hbuf.toList.take s.idx.toNat := H.hbuf hp
  have hc : s.crc = x.crc := H.crc (by simp [hp, Phase.reads])
  have stored : (storeHeaderByte b s).crc = (storeHeaderByte b (s.withFrameOf x)).crc := by
    simp [State.withFrameOf, hc]
  refine rel_ite Iff.rfl (fun hlt => ?_) fun hlt => ?_
  · refine sameWritten_of_hdr rfl hp stored ?_
    simp [State.withFrameOf, word_succ_toNat hlt (by decide), take_succ_set, hb,
      show s.idx.toNat < 12 by omega]
  · have full : (storeHeaderByte b s).hbuf = (storeHeaderByte b (s.withFrameOf x)).hbuf :=
      setIfInBounds_last_eq (by omega) hb b
    have latch {α : Type} (f : Vector Byte 12 → α) := congrArg f full
    exact sameOutcome_crcCheck _ rfl (latch headerChecksum) stored
      (sameOutcome_afterHeaderCheck rfl (latch (·[0])) (latch headerType) (latch fun h => resolve (headerType h))
        (latch headerLength) (latch headerChecksum))

theorem sameWritten_payloadByte (b : Byte) (H : s.SameWritten t) (hp : s.phase = .pay) :
    (payloadByte b s).SameWritten (payloadByte b t) := by
  obtain ⟨x, rfl⟩ := exists_withFrameOf H.rest
  obtain ⟨hv, ht, hy, hl, hc, hb⟩ := H.header (.inl hp)
  have crc : crcStep s.crc b = crcStep (s.withFrameOf x).crc b := by rw [H.crc (by simp [hp, Phase.reads])]
  have pbuf : s.pbuf ++ [b] = (s.withFrameOf x).pbuf ++ [b] := by rw [hb]
  have guard : s.idx.toNat + 1 < s.plen.toNat ↔ s.idx.toNat + 1 < (s.withFrameOf x).plen.toNat := by rw [hl]
  refine rel_ite guard (fun _ => ?_) fun _ => ?_
  · exact ⟨rfl, fun _ => crc, by simp [hp], fun _ => ⟨hv, ht, hy, hl, hc, pbuf⟩, by simp [hp], by simp [hp]⟩
  · exact ⟨rfl, fun _ => crc, by simp, fun _ => ⟨hv, ht, hy, hl, hc, pbuf⟩, fun _ => rfl, by simp⟩

theorem sameOutcome_checksumByte (b : Byte) (H : s.SameWritten t) (hp : s.phase = .pcrc) (hi : s.idx.toNat ≤ 3) :
    sameOutcome (checksumByte b s) (checksumByte b t) := by
  obtain ⟨x, rfl⟩ := exists_withFrameOf H.rest
  obtain ⟨hv, ht, hy, hl, hc, hb⟩ := H.header (.inr hp)
  have hs : s.pcbuf.toList.take s.idx.toNat = x.pcbuf.toList.take s.idx.toNat := H.pcbuf hp
  have crc := H.crc (by simp [hp, Phase.reads])
  refine rel_ite Iff.rfl (fun hlt => ?_) fun hlt => ?_
  · refine ⟨rfl, fun _ => crc, by simp [hp], fun _ => ⟨hv, ht, hy, hl, hc, hb⟩, fun _ => ?_, by simp [hp]⟩
    simp [State.withFrameOf, word_succ_toNat hlt (by decide), take_succ_set, hs,
      show s.idx.toNat < 4 by omega]
  · have full : payloadChecksum (storeChecksumByte b s).pcbuf =
        payloadChecksum (storeChecksumByte b (s.withFrameOf x)).pcbuf :=
      congrArg payloadChecksum (setIfInBounds_last_eq (by omega) hs b)
    exact sameOutcome_crcCheck _ rfl full crc
      (State.SameFrame.sameOutcome_exec ⟨hv, ht, hy, hl, hc, fun _ => hb, fun _ => full⟩ rfl)

/-- BLOCK's step on SRC's answer reads no field not yet written. -/
theorem sameOutcome_takeSrcAnswer (a : SrcAnswer) (H : s.SameWritten t) :
    sameOutcome (takeSrcAnswer a s) (takeSrcAnswer a t) := by
  have hi : t.indexInField = s.indexInField := by
    obtain ⟨x, rfl⟩ := exists_withFrameOf H.rest
    cases hp : s.phase with
    | pay => simp only [State.indexInField, State.withFrameOf, hp, (H.header (.inl hp)).2.2.2.1]
    | _ => simp only [State.indexInField, State.withFrameOf, hp]
  unfold takeSrcAnswer
  rw [hi]
  refine rel_ite Iff.rfl (fun hin => ?_) fun _ => rfl
  have ht : t.phase = s.phase := (congrArg State.phase H.rest : s.forgetFrame.phase = t.forgetFrame.phase).symm
  cases a with
  | byte b =>
    simp only [takeByte, ht]
    cases hp : s.phase with
    | hdr => exact sameOutcome_headerByte b H hp (by simpa [State.indexInField, hp] using hin)
    | pay => exact sameWritten_payloadByte b H hp
    | pcrc => exact sameOutcome_checksumByte b H hp (by simpa [State.indexInField, hp] using hin)
    | idle | emit | done | error | aborted => rfl
  | eos =>
    simp only [takeEos, ht]
    obtain ⟨x, rfl⟩ := exists_withFrameOf H.rest
    cases hp : s.phase with
    | hdr =>
      exact rel_ite (r := State.SameWritten) Iff.rfl (fun _ => sameWritten_of_resting rfl rfl)
        fun _ => sameWritten_of_resting rfl rfl
    | pay | pcrc => exact sameWritten_of_resting rfl rfl
    | idle | emit | done | error | aborted => rfl

/-- BLOCK's step on SNK's answer reads the type of the pending frame (R154). -/
theorem sameWritten_takeAck (a : Ack) (rest : s.forgetFrame = t.forgetFrame) (ptype : s.ptype = t.ptype) :
    (takeAck a s).SameWritten (takeAck a t) := by
  obtain ⟨x, rfl⟩ := exists_withFrameOf rest
  cases a with
  | err => exact sameWritten_of_resting rfl rfl
  | ok =>
    have guard : s.ptype = .endMark ↔ (s.withFrameOf x).ptype = .endMark := by rw [ptype]
    exact rel_ite guard (fun _ => sameWritten_of_resting rfl rfl) fun _ => sameWritten_nextFrame rfl

/-! ### The moves of the agents -/

/-- A command reads the phase; START begins a fresh header and ABORT ends the session (R180 to R184). -/
theorem sameOutcome_command (v : Word) (H : s.SameWritten t) :
    sameOutcome (exec (decodeCtrl v) s) (exec (decodeCtrl v) t) := by
  obtain ⟨x, rfl⟩ := exists_withFrameOf H.rest
  have wrote (m : Mode) : (writeMode m s).SameWritten (writeMode m (s.withFrameOf x)) :=
    H.with_agents m s.history s.stream s.streamEnds s.inputs s.withdrawn
  unfold decodeCtrl
  dsimp only
  split_ifs
  · exact rel_ite (r := State.SameWritten) Iff.rfl (fun _ => sameWritten_of_resting rfl rfl) fun _ => wrote _
  · exact rel_ite (r := State.SameWritten) Iff.rfl (fun _ => wrote _) fun _ => sameWritten_of_hdr rfl rfl rfl rfl
  · exact wrote _

theorem sameOutcome_lateAnswer (q : Request) (why : Refusal) (H : s.SameWritten t) :
    sameOutcome (lateAnswer q why s) (lateAnswer q why t) := by
  obtain ⟨x, rfl⟩ := exists_withFrameOf H.rest
  exact rel_ite Iff.rfl (fun _ => H.with_agents s.ctrlMode s.history s.stream s.streamEnds s.inputs none) fun _ => rfl

theorem sameOutcome_srcMove (H : s.SameWritten t) : sameOutcome (srcMove s) (srcMove t) := by
  obtain ⟨x, rfl⟩ := exists_withFrameOf H.rest
  have hn : (s.withFrameOf x).nextByte = s.nextByte := rfl
  refine rel_ite Iff.rfl (fun _ => ?_) fun _ => sameOutcome_lateAnswer _ _ H
  rw [hn]
  cases s.nextByte with
  | some given =>
    have taken := H.with_agents s.ctrlMode s.history given.2 s.streamEnds s.inputs s.withdrawn
    exact sameOutcome_takeSrcAnswer _ (taken.observe _)
  | none =>
    exact rel_ite Iff.rfl (fun _ => sameOutcome_takeSrcAnswer _ (H.observe _)) fun _ => H

theorem sameOutcome_snkMove (a : Ack) (H : s.SameWritten t) : sameOutcome (snkMove a s) (snkMove a t) := by
  obtain ⟨x, rfl⟩ := exists_withFrameOf H.rest
  have hp : (s.withFrameOf x).pending = s.pending := rfl
  refine rel_ite Iff.rfl (fun he => ?_) fun _ => sameOutcome_lateAnswer _ _ H
  rw [hp]
  cases s.pending with
  | some ev => exact sameWritten_takeAck a rfl (H.ptype he)
  | none => rfl

theorem sameOutcome_hostWrite (off width : Nat) (v : Word) (H : s.SameWritten t) :
    sameOutcome (hostWrite off width v s) (hostWrite off width v t) := by
  obtain ⟨x, rfl⟩ := exists_withFrameOf H.rest
  have noted := H.observe (.regW off v)
  exact rel_ite Iff.rfl (fun _ => rel_ite Iff.rfl (fun _ => sameOutcome_command v noted) fun _ => noted) fun _ => rfl

theorem State.SameWritten.registerAt_eq (H : s.SameWritten t) (off : Nat) : registerAt s off = registerAt t off := by
  rw [← registerAt_forgetFrame s, H.rest, registerAt_forgetFrame]

theorem sameOutcome_hostRead (off width : Nat) (H : s.SameWritten t) :
    sameOutcome (hostRead off width s) (hostRead off width t) := by
  have hv := H.registerAt_eq off
  obtain ⟨x, rfl⟩ := exists_withFrameOf H.rest
  refine rel_ite Iff.rfl (fun _ => ?_) fun _ => rfl
  rw [← hv]
  cases registerAt s off with
  | some v => exact H.observe _
  | none => rfl

/-- No move of an agent reads a field not yet written. -/
theorem sameOutcome_move (i : Input) (H : s.SameWritten t) : sameOutcome (move i s) (move i t) := by
  cases i with
  | src => exact sameOutcome_srcMove H
  | snk a => exact sameOutcome_snkMove a H
  | regWrite off width v => exact sameOutcome_hostWrite off width v H
  | regRead off width => exact sameOutcome_hostRead off width H
  | reset =>
    obtain ⟨x, rfl⟩ := exists_withFrameOf H.rest
    exact sameWritten_of_resting rfl rfl
  | connect bytes ends =>
    obtain ⟨x, rfl⟩ := exists_withFrameOf H.rest
    exact rel_ite Iff.rfl (fun _ => rfl)
      fun _ => H.with_agents s.ctrlMode s.history bytes ends s.inputs s.withdrawn

/-- No step reads a field not yet written. -/
theorem sameOutcome_step (H : s.SameWritten t) : sameOutcome (step s) (step t) := by
  obtain ⟨x, rfl⟩ := exists_withFrameOf H.rest
  cases h : s.nextMove with
  | none =>
    rw [step_waits h, step_waits (s := s.withFrameOf x) h]
    exact H
  | some next =>
    rw [step_moves h, step_moves (s := s.withFrameOf x) h]
    exact sameOutcome_move next.1 (H.with_agents s.ctrlMode s.history s.stream s.streamEnds next.2 s.withdrawn)

end

/-- Settles O48: every move of an agent does the same in states that agree on what is written, and the history, the
registers and the pending event are no per-frame fields. -/
theorem staleFieldsAreNeverRead : Obligations.StaleFieldsAreNeverRead := by
  unfold Obligations.StaleFieldsAreNeverRead
  intro s t H
  refine ⟨sameOutcome_step H, ?_, ?_, H.registerAt_eq⟩ <;> obtain ⟨x, rfl⟩ := exists_withFrameOf H.rest <;> rfl

end Sys2Proof.Machine
end

section
/-!
PROOFS. Numbers on the wire, host accesses and the step of a command (R56, R57, R180).
-/

namespace Sys2Proof.Machine

/-- Settles O6: every field is be32 of its bytes, the type's first byte a zero. -/
theorem numericFieldsAreBigEndian : Obligations.NumericFieldsAreBigEndian := by
  unfold Obligations.NumericFieldsAreBigEndian
  refine ⟨fun h => ⟨be32_toNat _ _ _ _, be32_toNat _ _ _ _, ?_⟩, fun p => be32_toNat _ _ _ _⟩
  have padded := be32_toNat 0x00#8 h[1] h[2] h[3]
  rwa [BitVec.toNat_ofNat, Nat.zero_mod, Nat.zero_mul, Nat.zero_add] at padded

/-- Settles O9: the decoder reads from a CTRL value the command that the write runs. -/
theorem stepRunsCommand : Obligations.StepRunsCommand := by
  unfold Obligations.StepRunsCommand
  intro s v rest i more h hd
  obtain ⟨rfl, -⟩ : decodeCtrl v = i ∧ [] = more := by simpa [decode] using hd
  exact step_ctrl h

/-- A register stands at every offset of the interface (R55). -/
theorem exists_registerAt (s : State) {off : Nat} (h : off ∈ [0x00, 0x04, 0x08, 0x0C, 0x10]) :
    ∃ x, registerAt s off = some x := by
  simp only [List.mem_cons, List.not_mem_nil, or_false] at h
  obtain rfl | rfl | rfl | rfl | rfl := h <;> exact ⟨_, rfl⟩

/-- A defined read notes the register's value and changes nothing else (R56, R185). -/
theorem hostRead_defined {s : State} {off width : Nat} {x : Word} (hd : accessDefined off width = true)
    (hx : registerAt s off = some x) : hostRead off width s = .next (s.observe (.regR off x)) := by
  simp only [hostRead, hd, if_true, hx]

/-- A defined write runs the command of a CTRL value, and is ignored at a read-only register (R56, R180). -/
theorem hostWrite_defined {off width : Nat} (hd : accessDefined off width = true) (v : Word) (s : State) :
    hostWrite off width v s =
      if off = 0x00 then exec (decodeCtrl v) (s.observe (.regW off v)) else .next (s.observe (.regW off v)) :=
  if_pos hd

/-- An access that the interface does not define is refused (R56, I15). -/
theorem access_undefined {off width : Nat} (hd : accessDefined off width ≠ true) (v : Word) (s : State) :
    hostRead off width s = .refused .accessOutsideInterface ∧
      hostWrite off width v s = .refused .accessOutsideInterface :=
  ⟨if_neg hd, if_neg hd⟩

/-- Settles O31: defined reads and writes by their rules, any other access by its refusal. -/
theorem hostAccessRule : Obligations.HostAccessRule := by
  unfold Obligations.HostAccessRule
  intro s off width v rest
  refine ⟨fun hw ho h => ?_, fun hw ho h => ?_, fun hw ho h => ?_, fun hu => ?_⟩
  · obtain ⟨x, hx⟩ := exists_registerAt s ho
    exact ⟨x, hx, (step_moves h).trans (hostRead_defined ((accessDefined_iff _ _).2 ⟨hw, ho⟩) hx)⟩
  · subst hw ho
    exact step_ctrl h
  · have hd := (accessDefined_iff off width).2 ⟨hw, List.mem_cons_of_mem _ ho⟩
    have h0 : off ≠ 0x00 := by rintro rfl; simp at ho
    exact (step_moves h).trans ((hostWrite_defined hd v _).trans (if_neg h0))
  · have hd : accessDefined off width ≠ true := fun hd => by
      obtain ⟨hw, ho⟩ := (accessDefined_iff _ _).1 hd
      exact hu.elim (· hw) (· ho)
    obtain ⟨hr, hw⟩ := access_undefined hd v { s with inputs := rest }
    exact ⟨fun h => (step_moves h).trans hr, fun h => (step_moves h).trans hw⟩

end Sys2Proof.Machine
end

section
/-!
PROOFS. Where a step may stop (R56, R89, R187, R189). Every move of an agent goes on in a state of the invariant, or the
agent acts outside the interface.
-/

namespace Sys2Proof.Machine

/-! ### BLOCK never stops on an answer it asked for -/

theorem crcCheck_next {k : State → Host.Outcome State Fault Refusal} (hk : ∀ s, ∃ t, k s = .next t) (declared : Word)
    (wh : ErrWhere) (s : State) : ∃ t, crcCheck declared wh s k = .next t := by
  obtain ⟨-, e⟩ | ⟨-, e⟩ := crcCheck_eq declared wh s k
  · exact e ▸ hk s
  · exact ⟨_, e⟩

theorem afterHeaderCheck_next (s : State) : ∃ t, afterHeaderCheck s = .next t := by
  unfold afterHeaderCheck
  split
  · exact exec_next _ s
  · split <;> exact ⟨_, rfl⟩

theorem headerByte_next (b : Byte) (s : State) : ∃ t, headerByte b s = .next t := by
  unfold headerByte
  split
  · exact ⟨_, rfl⟩
  · exact crcCheck_next afterHeaderCheck_next _ _ _

theorem checksumByte_next (b : Byte) (s : State) : ∃ t, checksumByte b s = .next t := by
  unfold checksumByte
  split
  · exact ⟨_, rfl⟩
  · exact crcCheck_next (fun u => exec_next _ u) _ _ _

/-- While BLOCK reads inside a field, any answer of SRC leads to a next state (R120 to R129, R140 to R145). -/
theorem takeSrcAnswer_next {s : State} (hr : s.phase.reads = true) (hi : s.indexInField = true) (a : SrcAnswer) :
    ∃ t, takeSrcAnswer a s = .next t := by
  simp only [takeSrcAnswer, hi, if_true]
  cases hp : s.phase <;> simp only [hp, Phase.reads, Bool.false_eq_true] at hr
  case hdr =>
    cases a with
    | byte b => simpa [takeByte, hp] using headerByte_next b s
    | eos => simp [takeEos, hp]
  case pay => cases a <;> simp [takeByte, takeEos, hp]
  case pcrc =>
    cases a with
    | byte b => simpa [takeByte, hp] using checksumByte_next b s
    | eos => simp [takeEos, hp]

/-! ### The moves of the agents -/

/-- The move i is one that no agent makes in s by the spec: an access outside the register interface, an answer to no
request, or the connecting of a stream while a session owns SRC (R56, R187, R189; log entries 13 and 14). -/
def State.MovesOutside (s : State) (i : Input) : Prop :=
  (∃ off width, (width ≠ 32 ∨ off ∉ [0x00, 0x04, 0x08, 0x0C, 0x10]) ∧
    (i = .regRead off width ∨ ∃ v, i = .regWrite off width v)) ∨
  (i = .src ∧ s.phase.reads = false ∧ s.withdrawn ≠ some .srcRead) ∨
  (∃ a, i = .snk a ∧ s.phase ≠ .emit ∧ s.withdrawn ≠ some .snkPut) ∨
  (∃ bytes ends, i = .connect bytes ends ∧ s.phase.busy = true)

/-- An outcome that goes on, or is refused for a reason p. -/
def GoesOnOr (p : Prop) (o : Host.Outcome State Fault Refusal) : Prop :=
  (∃ t, o = .next t) ∨ ((∃ r, o = .refused r) ∧ p)

theorem lateAnswer_goesOn (r : Request) (why : Refusal) (s : State) :
    GoesOnOr (s.withdrawn ≠ some r) (lateAnswer r why s) := by
  unfold lateAnswer
  split
  · exact .inl ⟨_, rfl⟩
  · exact .inr ⟨⟨_, rfl⟩, ‹_›⟩

theorem srcMove_goesOn {s : State} (I : s.Inv) :
    GoesOnOr (s.phase.reads = false ∧ s.withdrawn ≠ some .srcRead) (srcMove s) := by
  by_cases hr : s.phase.reads = true
  · have answered (a : SrcAnswer) (bytes : Supply Byte) (o : Obs) :
        ∃ t, takeSrcAnswer a ({ s with stream := bytes }.observe o) = .next t :=
      takeSrcAnswer_next (s := { s with stream := bytes }.observe o) hr I.index.1 a
    left
    cases h : s.nextByte with
    | some given =>
      rw [srcMove_byte hr h]
      exact answered _ _ _
    | none =>
      rw [srcMove_noByte hr h]
      split
      · exact answered _ s.stream _
      · exact ⟨_, rfl⟩
  · rw [srcMove, if_neg hr]
    exact (lateAnswer_goesOn _ _ s).imp_right (And.imp_right fun h => ⟨by simpa using hr, h⟩)

theorem snkMove_goesOn {s : State} (I : s.Inv) (a : Ack) :
    GoesOnOr (s.phase ≠ .emit ∧ s.withdrawn ≠ some .snkPut) (snkMove a s) := by
  by_cases hp : s.phase = .emit
  · obtain ⟨ev, hev⟩ := Option.isSome_iff_exists.1 (I.pending.2 hp)
    exact .inl (by simp [snkMove, hp, hev])
  · rw [snkMove, if_neg hp]
    exact (lateAnswer_goesOn _ _ s).imp_right (And.imp_right fun h => ⟨hp, h⟩)

theorem hostRead_goesOn (off width : Nat) (s : State) :
    GoesOnOr (accessDefined off width ≠ true) (hostRead off width s) := by
  by_cases hd : accessDefined off width = true
  · obtain ⟨x, hx⟩ := exists_registerAt s ((accessDefined_iff _ _).1 hd).2
    exact .inl ⟨_, hostRead_defined hd hx⟩
  · exact .inr ⟨⟨_, (access_undefined hd 0#32 s).1⟩, hd⟩

theorem hostWrite_goesOn (off width : Nat) (v : Word) (s : State) :
    GoesOnOr (accessDefined off width ≠ true) (hostWrite off width v s) := by
  by_cases hd : accessDefined off width = true
  · rw [hostWrite_defined hd]
    split
    · exact .inl (exec_next _ _)
    · exact .inl ⟨_, rfl⟩
  · exact .inr ⟨⟨_, (access_undefined hd v s).2⟩, hd⟩

/-- In a state of the invariant a move goes on, or it is one outside the interface. -/
theorem move_goesOn {s : State} (I : s.Inv) (i : Input) : GoesOnOr (s.MovesOutside i) (move i s) := by
  have undefined {off width : Nat} (hd : accessDefined off width ≠ true) :
      width ≠ 32 ∨ off ∉ [0x00, 0x04, 0x08, 0x0C, 0x10] := by
    rwa [Ne, accessDefined_iff, not_and_or] at hd
  cases i with
  | src => exact (srcMove_goesOn I).imp_right (And.imp_right fun h => .inr (.inl ⟨rfl, h⟩))
  | snk a => exact (snkMove_goesOn I a).imp_right (And.imp_right fun h => .inr (.inr (.inl ⟨a, rfl, h⟩)))
  | regWrite off width v =>
    exact (hostWrite_goesOn off width v s).imp_right
      (And.imp_right fun h => .inl ⟨off, width, undefined h, .inr ⟨v, rfl⟩⟩)
  | regRead off width =>
    exact (hostRead_goesOn off width s).imp_right
      (And.imp_right fun h => .inl ⟨off, width, undefined h, .inl rfl⟩)
  | reset => exact .inl ⟨_, rfl⟩
  | connect bytes ends =>
    simp only [move, connectStream]
    split
    · exact .inr ⟨⟨_, rfl⟩, .inr (.inr (.inr ⟨bytes, ends, rfl, ‹_›⟩))⟩
    · exact .inl ⟨_, rfl⟩

/-- A step of the invariant goes on, or the move it makes is one outside the interface. -/
theorem step_goesOn {s : State} (I : s.Inv) :
    GoesOnOr (∃ i rest, s.nextMove = some (i, rest) ∧ s.MovesOutside i) (step s) := by
  cases h : s.nextMove with
  | none => exact .inl ⟨s, step_waits h⟩
  | some next =>
    obtain ⟨i, rest⟩ := next
    rw [step_moves h]
    exact (move_goesOn (inv_agents I _ _ _ rest) i).imp_right (And.imp_right fun ho => ⟨i, rest, rfl, ho⟩)

/-- Settles O38: by cases on the move, with the invariant's idx in its field and pending event in EMIT. -/
theorem stopsAreOutsideTheInterface : Obligations.StopsAreOutsideTheInterface := by
  unfold Obligations.StopsAreOutsideTheInterface
  intro s I
  obtain ⟨t, e⟩ | ⟨⟨q, e⟩, outside⟩ := step_goesOn I
  · exact ⟨by simp [e], by simp [e]⟩
  · exact ⟨by simp [e], fun _ _ => outside⟩

end Sys2Proof.Machine
end

section
/-!
PROOFS. What a step takes from the stream and notes of it, in a session and outside one (R51, R52, R68, R158, R187). It
is read off the effects of Laws/Step: BLOCK's own part in a step leaves the stream and notes a Close at most.
-/

namespace Sys2Proof.Machine

/-! ### BLOCK's own part in a step -/

theorem frameEffect_stream {p : PType} {s t : State} (fx : FrameEffect p s t) : t.stream = s.stream := by
  cases fx <;> rfl

theorem State.RewritesFrame.stream_eq {s u : State} (hu : s.RewritesFrame u) : u.stream = s.stream := by rw [hu]

theorem answerEffect_stream {s t : State} (fx : AnswerEffect s t) : t.stream = s.stream := by
  cases fx with
  | readsOn hu => exact hu.stream_eq
  | ended => rfl
  | raised hu => exact hu.stream_eq
  | completed hu p _ ht => exact (frameEffect_stream ht).trans hu.stream_eq

theorem takeAck_stream (a : Ack) (s : State) : (takeAck a s).stream = s.stream := by
  cases a with
  | err => rfl
  | ok =>
    simp only [takeAck, emitAckOk]
    split <;> rfl

theorem commandEffect_stream {m : Mode} {i : Instr} {s t : State} (fx : CommandEffect m i s t) :
    t.stream = s.stream := by
  cases fx <;> rfl

/-- A command starts a session or writes ctrl_mode and leaves the history, or it runs CLOSE (R181 to R183). -/
theorem commandEffect_history {m : Mode} {i : Instr} {s t : State} (fx : CommandEffect m i s t) :
    t.history = s.history ∨ t.history = s.historyClosed := by
  cases fx with
  | started => exact .inl rfl
  | cancelled => exact .inr rfl
  | wrote => exact .inl rfl

theorem State.LeavesOrCloses.history_cases {s t : State} (h : s.LeavesOrCloses t) :
    t.history = s.history ∨ t.history = s.historyClosed :=
  h.imp And.left And.left

/-- After an agent's entry BLOCK's own part adds Closes alone (R186; log entry 15). -/
theorem history_after_entry {s u t : State} {o : Obs} (hu : u.history = s.history ++ [o])
    (h : t.history = u.history ∨ t.history = u.historyClosed) :
    ∃ closes, t.history = s.history ++ (o :: closes) ∧ ∀ c ∈ closes, c = .close := by
  obtain h | h := h
  · exact ⟨[], h.trans hu, by simp⟩
  · refine ⟨if u.closed then [] else [.close], ?_, by split <;> simp⟩
    rw [h, State.historyClosed, hu]
    split <;> simp

/-! ### The step -/

/-- What a step does to the stream and to the reads noted: nothing of either, or one byte taken and noted (R51, R52). -/
inductive ReadEffect (s t : State) : Prop where
  | none (added : List Obs) (hs : t.stream = s.stream) (hh : t.history = s.history ++ added)
      (hb : ∀ b, .read (.byte b) ∉ added)
  | took (b : Byte) (others : List Obs) (hr : s.phase.reads = true) (hn : s.nextByte = some (b, t.stream))
      (hh : t.history = s.history ++ (.read (.byte b) :: others)) (ho : ∀ o ∈ others, ¬ isRead o)

/-- A move that notes an entry other than a byte, and leaves the stream. -/
theorem readEffect_of_entry {s u t : State} {o : Obs} (ho : ∀ b, o ≠ .read (.byte b)) (hs : t.stream = u.stream)
    (h : t.history = u.history ∨ t.history = u.historyClosed) (hus : u.stream = s.stream)
    (hu : u.history = s.history ++ [o]) : ReadEffect s t := by
  obtain ⟨closes, hh, hc⟩ := history_after_entry hu h
  refine .none _ (hs.trans hus) hh fun b hb => ?_
  obtain e | hmem := List.mem_cons.1 hb
  · exact ho b e.symm
  · cases hc _ hmem

/-- Of the moves but connecting a stream, SRC's byte alone takes from the stream, and it is the one noted as such. -/
theorem step_readEffect {s t : State} (e : step s = .next t) (hc : ¬ connectComes s) : ReadEffect s t := by
  have nothing {u : State} (hs : u.stream = s.stream) (hh : u.history = s.history) : ReadEffect s u :=
    .none [] hs (by simpa using hh) (by simp)
  cases step_effect e with
  | waits => exact nothing rfl rfl
  | srcWaits => exact nothing rfl rfl
  | gaveByte hr h e' =>
    have fx := (takeSrcAnswer_effect e').2
    obtain ⟨closes, hh, hc⟩ := history_after_entry (s := s) rfl (answerEffect_leavesOrCloses fx).history_cases
    refine .took _ closes hr ?_ hh fun o ho => ?_
    · rw [answerEffect_stream fx]
      exact h.2
    · rw [hc o ho]
      rintro ⟨a, ⟨⟩⟩
  | gaveEos _ _ e' =>
    have fx := (takeSrcAnswer_effect e').2
    exact readEffect_of_entry (by simp) (answerEffect_stream fx) (answerEffect_leavesOrCloses fx).history_cases rfl rfl
  | late => exact nothing rfl rfl
  | acked a =>
    exact readEffect_of_entry (by simp) (takeAck_stream a _) (takeAck_leavesOrCloses a _).history_cases rfl rfl
  | command _ _ _ fx =>
    exact readEffect_of_entry (by simp) (commandEffect_stream fx) (commandEffect_history fx) rfl rfl
  | accessed i rest o _ _ ho =>
    obtain ⟨off, v, rfl | rfl⟩ := ho <;> exact readEffect_of_entry (by simp) rfl (.inl rfl) rfl rfl
  | wasReset => exact nothing rfl rfl
  | connected bytes ends rest h => exact absurd ⟨bytes, ends, rest, h⟩ hc

/-- Settles O40: by the step's effect on the stream and on the reads noted. -/
theorem bytesAreReadOnceInOrder : Obligations.BytesAreReadOnceInOrder := by
  unfold Obligations.BytesAreReadOnceInOrder
  intro s t e hc
  cases step_readEffect e hc with
  | none added hs hh hb => exact ⟨added, hh, .inl ⟨hs, hb⟩⟩
  | took b others hr hn hh ho => exact ⟨_, hh, .inr ⟨hr, b, others, hn, rfl, ho⟩⟩

/-- Settles O42: the moves that need a busy phase are no moves here, and of the others host accesses alone are noted. -/
theorem quietOutsideASession : Obligations.QuietOutsideASession := by
  unfold Obligations.QuietOutsideASession
  intro s t hb e
  obtain ⟨hr, -, -, -, hemit⟩ := Phase.of_busy_false hb
  have nothing {u : State} (hu : u.history = s.history) :
      ∃ added, u.history = s.history ++ added ∧ ∀ o ∈ added, isHostAccess o := ⟨[], by simpa using hu, by simp⟩
  have access {u : State} {o : Obs} (ho : isHostAccess o) (hu : u.history = s.history ++ [o]) :
      ∃ added, u.history = s.history ++ added ∧ ∀ o ∈ added, isHostAccess o := ⟨[o], hu, by simpa using ho⟩
  cases step_effect e with
  | waits => exact nothing rfl
  | srcWaits => exact nothing rfl
  | gaveByte hr' => simp [hr] at hr'
  | gaveEos hr' => simp [hr] at hr'
  | late => exact nothing rfl
  | acked _ _ _ _ hp => exact absurd hp hemit
  | command v rest h fx =>
    cases fx with
    | started => exact access ⟨_, v, .inl rfl⟩ rfl
    | cancelled _ _ _ hp => simp [hb] at hp
    | wrote => exact access ⟨_, v, .inl rfl⟩ rfl
  | accessed i rest o _ _ ho =>
    obtain ⟨off, v, ho⟩ := ho
    exact access ⟨off, v, ho.symm⟩ rfl
  | wasReset => exact nothing rfl
  | connected => exact nothing rfl

end Sys2Proof.Machine
end

section
/-!
PROOFS. A whole frame is read and run (R66, R70 to R74, R87, R162). The states that the bytes of a header, of a body and
of a payload checksum lead to are written out for every number of bytes received; a run through them is an induction
over the bytes, packaged once.
-/

namespace Sys2Proof.Machine

/-! ### Runs over SRC's bytes -/

/-- The state after SRC has given a list of bytes, each noted in its turn; for one byte it is givenByte (R46, R51). -/
def State.givenBytes (s : State) (xs : List Byte) (stream : Supply Byte) (inputs : Supply Input) : State :=
  { s with stream := stream, inputs := inputs, history := s.history ++ xs.map fun b => .read (.byte b) }

theorem givenBytes_nil (s : State) : s.givenBytes [] s.stream s.inputs = s := by
  simp [State.givenBytes]

theorem givenBytes_givenByte (s : State) (xs : List Byte) (b : Byte) (u v : Supply Byte) (i j : Supply Input) :
    (s.givenBytes xs u i).givenByte b v j = s.givenBytes (xs ++ [b]) v j := by
  simp [State.givenBytes, State.givenByte]

theorem givenBytes_givenBytes (s : State) (xs ys : List Byte) (u v : Supply Byte) (i j : Supply Input) :
    (s.givenBytes xs u i).givenBytes ys v j = s.givenBytes (xs ++ ys) v j := by
  simp [State.givenBytes]

/-- A run of one step is the step. -/
theorem run_one (s : State) : Host.Core.run core 1 s = step s := by
  simp only [Host.Core.run]
  cases h : core.step s <;> exact h.symm

section
variable {g : List Byte → State} {n : Nat} {stream after : Supply Byte} {inputs more : Supply Input} {xs : List Byte}

/-- SRC gives one byte more, when it has given the bytes xs. -/
theorem step_givenBytes {s : State} {b : Byte} (hr : s.phase.reads = true)
    (hs : Supply.Gives Config.freeByte [b] stream after) (hi : Supply.Gives Config.freeMove [.src] inputs more) :
    step (s.givenBytes xs stream inputs) = takeSrcAnswer (.byte b) (s.givenBytes (xs ++ [b]) after more) := by
  obtain ⟨_, hs, rfl⟩ := hs
  obtain ⟨_, hi, rfl⟩ := hi
  rw [step_byte (s := s.givenBytes xs stream inputs) hr ⟨hi, hs⟩, givenBytes_givenByte]

/-- The induction over the bytes of a field: when the block reads in each state g xs before the n-th byte, and goes with
one more byte to g of them all, then SRC's turns lead it through the states of g. -/
theorem run_givenBytes (hr : ∀ xs, xs.length < n → (g xs).phase.reads = true)
    (hg : ∀ xs b stream inputs, xs.length < n →
      takeSrcAnswer (.byte b) ((g xs).givenBytes (xs ++ [b]) stream inputs) =
        .next ((g (xs ++ [b])).givenBytes (xs ++ [b]) stream inputs))
    (hn : xs.length ≤ n) (hs : Supply.Gives Config.freeByte xs stream after)
    (hi : Supply.Gives Config.freeMove (List.replicate xs.length .src) inputs more) :
    Host.Core.run core xs.length ((g []).givenBytes [] stream inputs) = .next ((g xs).givenBytes xs after more) := by
  induction xs using List.reverseRecOn generalizing after more with
  | nil =>
    obtain rfl : stream = after := hs
    obtain rfl : inputs = more := hi
    rfl
  | append_singleton xs b ih =>
    rw [List.length_append, List.length_singleton] at hn hi ⊢
    rw [List.replicate_succ'] at hi
    obtain ⟨v, hv, hb⟩ := gives_append.1 hs
    obtain ⟨j, hj, hm⟩ := gives_append.1 hi
    rw [run_add 1 (ih (by omega) hv hj), run_one, step_givenBytes (hr xs (by omega)) hb hm]
    exact hg xs b after more (by omega)

/-- The run over a field's bytes ends with what the block does on the last of them. -/
theorem run_lastByte (hr : ∀ xs, xs.length ≤ n → (g xs).phase.reads = true)
    (hg : ∀ xs b stream inputs, xs.length < n →
      takeSrcAnswer (.byte b) ((g xs).givenBytes (xs ++ [b]) stream inputs) =
        .next ((g (xs ++ [b])).givenBytes (xs ++ [b]) stream inputs))
    (hn : xs.length = n + 1) (hs : Supply.Gives Config.freeByte xs stream after)
    (hi : Supply.Gives Config.freeMove (List.replicate (n + 1) .src) inputs more) :
    ∃ ys b, xs = ys ++ [b] ∧ ys.length = n ∧
      Host.Core.run core (n + 1) ((g []).givenBytes [] stream inputs) =
        takeSrcAnswer (.byte b) ((g ys).givenBytes xs after more) := by
  obtain rfl | ⟨ys, b, rfl⟩ := xs.eq_nil_or_concat'
  · simp at hn
  · obtain rfl : ys.length = n := by simpa using hn
    rw [List.replicate_succ'] at hi
    obtain ⟨v, hv, hb⟩ := gives_append.1 hs
    obtain ⟨j, hj, hm⟩ := gives_append.1 hi
    refine ⟨ys, b, rfl, rfl, ?_⟩
    rw [run_add 1 (run_givenBytes (fun xs h => hr xs h.le) hg le_rfl hv hj), run_one,
      step_givenBytes (hr ys le_rfl) hb hm]

end

/-! ### Buffers -/

/-- A buffer with its first bytes received: those of xs, and behind them what it held. -/
def filled {n : Nat} (buf : Vector Byte n) (xs : List Byte) : Vector Byte n := .ofFn fun i => xs.getD i buf[i]

theorem filled_nil {n : Nat} (buf : Vector Byte n) : filled buf [] = buf := by
  ext i hi
  simp [filled]

/-- Storing the next byte of a buffer. -/
theorem setIfInBounds_filled {n : Nat} (buf : Vector Byte n) (xs : List Byte) (b : Byte) :
    (filled buf xs).setIfInBounds xs.length b = filled buf (xs ++ [b]) := by
  ext i hi : 1
  simp only [filled, Vector.getElem_setIfInBounds, Vector.getElem_ofFn]
  obtain h | rfl | h := Nat.lt_trichotomy i xs.length
  · rw [if_neg (by omega), List.getD_append _ _ _ _ h]
  · simp
  · rw [if_neg (by omega), List.getD_eq_default _ _ h.le, List.getD_eq_default _ _ (by simpa using h)]

/-- A buffer with all its bytes received holds those. -/
theorem filled_toList {n : Nat} (buf : Vector Byte n) {xs : List Byte} (h : xs.length = n) :
    (filled buf xs).toList = xs := by
  apply List.ext_getElem
  · simp [h]
  · intro i _ hi
    simp [filled, hi]

/-- The fields of a header from its bytes (R71, R80). -/
theorem headerFields_of_bytes {h : Vector Byte 12} {v : Byte} {c : Code} {n : Word}
    (e : h.toList = headerBytes v c n) :
    h[0] = v ∧ headerType h = c.setWidth 32 ∧ headerLength h = n ∧ headerChecksum h = crc32 (headerStart v c n) := by
  have byte (i : Nat) (hi : i < 12) : h[i] = (headerBytes v c n)[i]'hi := by simp only [← e, Vector.getElem_toList]
  refine ⟨(byte 0 _).trans (encodeW0_version v c), ?_, ?_, ?_⟩
  · rw [headerType, byte 1, byte 2, byte 3]
    change be32 0x00#8 ((encodeW0 v c).extractLsb' 16 8) ((encodeW0 v c).extractLsb' 8 8)
      ((encodeW0 v c).extractLsb' 0 8) = _
    apply BitVec.eq_of_toNat_eq
    simp only [be32_toNat, extract_toNat, encodeW0_toNat, BitVec.toNat_setWidth, BitVec.toNat_ofNat]
    omega
  · rw [headerLength, byte 4, byte 5, byte 6, byte 7]
    exact be32_of_parts n
  · rw [headerChecksum, byte 8, byte 9, byte 10, byte 11]
    exact be32_of_parts _

/-- A payload checksum from its bytes (R80). -/
theorem payloadChecksum_of_bytes {p : Vector Byte 4} {x : Word} (e : p.toList = be32Bytes x) :
    payloadChecksum p = x := by
  have byte (i : Nat) (hi : i < 4) : p[i] = (be32Bytes x)[i]'hi := by simp only [← e, Vector.getElem_toList]
  rw [payloadChecksum, byte 0, byte 1, byte 2, byte 3]
  exact be32_of_parts x

/-! ### The header -/

/-- The state of a header of which the bytes xs have been received (R120). -/
def State.headerRead (s : State) (xs : List Byte) : State :=
  { s with idx := BitVec.ofNat 32 xs.length, hbuf := filled s.hbuf xs, crc := crcRegister (xs.take 8) }

/-- The state of a header received whole and latched (R123). -/
def State.headerTaken (s : State) (v : Byte) (c : Code) (n : Word) : State :=
  { s with
    idx     := 11#32
    hbuf    := filled s.hbuf (headerBytes v c n)
    crc     := crcRegister (headerStart v c n)
    version := v
    typeRaw := c.setWidth 32
    ptype   := resolve (c.setWidth 32)
    plen    := n
    hcrc    := crc32 (headerStart v c n) }

theorem headerRead_nil {s : State} (hi : s.idx = 0#32) (hc : s.crc = crcInitial) : s.headerRead [] = s := by
  simp only [State.headerRead, filled_nil, List.length_nil, ← hi]
  simp only [List.take_nil, crcRegister, List.foldl_nil, ← hc]

/-- Storing the next header byte, but for idx. -/
theorem storeHeaderByte_headerRead (s : State) {xs : List Byte} (h : xs.length < 12) (b : Byte) (ys : List Byte)
    (stream : Supply Byte) (inputs : Supply Input) :
    storeHeaderByte b ((s.headerRead xs).givenBytes ys stream inputs) =
      { (s.headerRead (xs ++ [b])).givenBytes ys stream inputs with idx := BitVec.ofNat 32 xs.length } := by
  have hn : (BitVec.ofNat 32 xs.length).toNat = xs.length := by rw [BitVec.toNat_ofNat]; omega
  have hcrc : (if xs.length ≤ 7 then crcStep (crcRegister (xs.take 8)) b else crcRegister (xs.take 8)) =
      crcRegister ((xs ++ [b]).take 8) := by
    split
    · rw [List.take_of_length_le (by omega), List.take_of_length_le (by simp; omega), crcRegister_concat]
    · rw [List.take_append_of_le_length (by omega)]
  simp only [storeHeaderByte, State.headerRead, State.givenBytes, hn, hcrc, setIfInBounds_filled]

/-- What the block does on a header byte, after those before it: it stores the byte and goes on, or completes the header
with the twelfth. -/
theorem takeSrcAnswer_headerRead {s : State} (hp : s.phase = .hdr) {xs : List Byte} (h : xs.length ≤ 11) (b : Byte)
    (ys : List Byte) (stream : Supply Byte) (inputs : Supply Input) :
    takeSrcAnswer (.byte b) ((s.headerRead xs).givenBytes ys stream inputs) =
      if xs.length < 11 then .next ((s.headerRead (xs ++ [b])).givenBytes ys stream inputs)
      else headerComplete { (s.headerRead (xs ++ [b])).givenBytes ys stream inputs with
        idx := BitVec.ofNat 32 xs.length } := by
  have hn : ((s.headerRead xs).givenBytes ys stream inputs).idx.toNat = xs.length := by
    simp only [State.headerRead, State.givenBytes, BitVec.toNat_ofNat]; omega
  rw [takeSrcAnswer_header (s := (s.headerRead xs).givenBytes _ _ _) hp (by omega)]
  simp only [headerByte, hn, storeHeaderByte_headerRead s (show xs.length < 12 by omega)]
  simp [State.headerRead, State.givenBytes, BitVec.ofNat_add]

/-- Completing a header that holds the bytes of a right one: it is latched, and its check passes (R123, R124). -/
theorem headerComplete_of_bytes (s : State) {v : Byte} {c : Code} {n : Word} {ys : List Byte} (stream : Supply Byte)
    (inputs : Supply Input) :
    headerComplete { (s.headerRead (headerBytes v c n)).givenBytes ys stream inputs with idx := 11#32 } =
      afterHeaderCheck ((s.headerTaken v c n).givenBytes ys stream inputs) := by
  obtain ⟨hv, ht, hl, hc⟩ := headerFields_of_bytes (filled_toList s.hbuf (xs := headerBytes v c n) rfl)
  have latched : latchHeader { (s.headerRead (headerBytes v c n)).givenBytes ys stream inputs with idx := 11#32 } =
      (s.headerTaken v c n).givenBytes ys stream inputs := by
    simp only [latchHeader, State.headerRead, State.headerTaken, State.givenBytes, hv, ht, hl, hc]
    rfl
  rw [headerComplete, latched]
  exact if_pos rfl

/-- The run over the twelve bytes of a right header (R70 to R72, R120, R123). -/
theorem run_header {s : State} (hp : s.phase = .hdr) (hi : s.idx = 0#32) (hc : s.crc = crcInitial) {v : Byte} {c : Code}
    {n : Word} {after : Supply Byte} {more : Supply Input}
    (bytes : Supply.Gives Config.freeByte (headerBytes v c n) s.stream after)
    (moves : Supply.Gives Config.freeMove (List.replicate 12 .src) s.inputs more) :
    Host.Core.run core 12 s = afterHeaderCheck ((s.headerTaken v c n).givenBytes (headerBytes v c n) after more) := by
  have hr (xs : List Byte) : (s.headerRead xs).phase.reads = true := by
    change s.phase.reads = true
    rw [hp]; rfl
  obtain ⟨xs, b, hxs, hn, run⟩ := run_lastByte (g := s.headerRead) (n := 11) (fun xs _ => hr xs)
    (fun xs b stream inputs h => (takeSrcAnswer_headerRead hp h.le b _ stream inputs).trans (if_pos h)) rfl bytes moves
  rw [headerRead_nil hi hc, givenBytes_nil] at run
  rw [run, takeSrcAnswer_headerRead hp hn.le, if_neg (by omega), ← hxs, hn, headerComplete_of_bytes]

/-! ### The payload section -/

/-- The state of a body of which the bytes xs have been received: the last one turns the phase (R140). -/
def State.bodyRead (s : State) (xs : List Byte) : State :=
  { s with
    phase := if xs.length < s.plen.toNat then .pay else .pcrc
    idx   := if xs.length < s.plen.toNat then BitVec.ofNat 32 xs.length else 0#32
    pbuf  := xs
    crc   := crcRegister xs }

/-- The state of a payload checksum of which the bytes xs have been received (R142). -/
def State.checksumRead (s : State) (xs : List Byte) : State :=
  { s with idx := BitVec.ofNat 32 xs.length, pcbuf := filled s.pcbuf xs }

/-- The state of a payload checksum received whole and latched (R142). -/
def State.checksumTaken (s : State) (x : Word) : State :=
  { s with idx := 3#32, pcbuf := filled s.pcbuf (be32Bytes x), pcrc := x }

theorem payBegin_eq_bodyRead {s : State} (h : 0 < s.plen.toNat) : payBegin s = s.bodyRead [] := by
  simp only [State.bodyRead, List.length_nil, if_pos h]
  rfl

theorem bodyRead_whole {s : State} {body : List Byte} (h : s.plen.toNat = body.length) :
    s.bodyRead body = { s with phase := .pcrc, idx := 0#32, pbuf := body, crc := crcRegister body } := by
  simp [State.bodyRead, h]

/-- A body byte (R140). -/
theorem takeSrcAnswer_bodyRead {s : State} {xs : List Byte} (h : xs.length < s.plen.toNat) (b : Byte)
    (ys : List Byte) (stream : Supply Byte) (inputs : Supply Input) :
    takeSrcAnswer (.byte b) ((s.bodyRead xs).givenBytes ys stream inputs) =
      .next ((s.bodyRead (xs ++ [b])).givenBytes ys stream inputs) := by
  have hn : (BitVec.ofNat 32 xs.length).toNat = xs.length := by
    rw [BitVec.toNat_ofNat, Nat.mod_eq_of_lt (h.trans s.plen.isLt)]
  have before : s.bodyRead xs = { s with
      phase := .pay, idx := BitVec.ofNat 32 xs.length, pbuf := xs, crc := crcRegister xs } := by
    simp only [State.bodyRead, if_pos h]
  rw [before, takeSrcAnswer_payload rfl (by change (BitVec.ofNat 32 xs.length).toNat < s.plen.toNat; rwa [hn])]
  simp only [payloadByte, crcUpdate, State.bodyRead, State.givenBytes, hn, List.length_append, List.length_singleton,
    crcRegister_concat]
  split <;> simp [BitVec.ofNat_add]

theorem checksumRead_nil {s : State} (h : s.idx = 0#32) : s.checksumRead [] = s := by
  simp only [State.checksumRead, filled_nil, List.length_nil, ← h]

/-- Storing the next byte of a payload checksum, but for idx. -/
theorem storeChecksumByte_checksumRead (s : State) {xs : List Byte} (h : xs.length < 4) (b : Byte) (ys : List Byte)
    (stream : Supply Byte) (inputs : Supply Input) :
    storeChecksumByte b ((s.checksumRead xs).givenBytes ys stream inputs) =
      { (s.checksumRead (xs ++ [b])).givenBytes ys stream inputs with idx := BitVec.ofNat 32 xs.length } := by
  have hn : (BitVec.ofNat 32 xs.length).toNat = xs.length := by rw [BitVec.toNat_ofNat]; omega
  simp only [storeChecksumByte, State.checksumRead, State.givenBytes, hn, setIfInBounds_filled]

/-- What the block does on a byte of the payload checksum, after those before it: it stores the byte and goes on, or
checks the payload with the fourth. -/
theorem takeSrcAnswer_checksumRead {s : State} (hp : s.phase = .pcrc) {xs : List Byte} (h : xs.length ≤ 3) (b : Byte)
    (ys : List Byte) (stream : Supply Byte) (inputs : Supply Input) :
    takeSrcAnswer (.byte b) ((s.checksumRead xs).givenBytes ys stream inputs) =
      if xs.length < 3 then .next ((s.checksumRead (xs ++ [b])).givenBytes ys stream inputs)
      else payloadCheck (latchChecksum { (s.checksumRead (xs ++ [b])).givenBytes ys stream inputs with
        idx := BitVec.ofNat 32 xs.length }) := by
  have hn : ((s.checksumRead xs).givenBytes ys stream inputs).idx.toNat = xs.length := by
    simp only [State.checksumRead, State.givenBytes, BitVec.toNat_ofNat]; omega
  rw [takeSrcAnswer_checksum (s := (s.checksumRead xs).givenBytes _ _ _) hp (by omega)]
  simp only [checksumByte, hn, storeChecksumByte_checksumRead s (show xs.length < 4 by omega)]
  simp [State.checksumRead, State.givenBytes, BitVec.ofNat_add]

theorem latchChecksum_checksumRead (s : State) (x : Word) (ys : List Byte) (stream : Supply Byte)
    (inputs : Supply Input) :
    latchChecksum { (s.checksumRead (be32Bytes x)).givenBytes ys stream inputs with idx := 3#32 } =
      (s.checksumTaken x).givenBytes ys stream inputs := by
  have hx := payloadChecksum_of_bytes (filled_toList s.pcbuf (be32Bytes_length x))
  simp only [latchChecksum, State.checksumRead, State.checksumTaken, State.givenBytes, hx]

/-- The run over the four bytes of a payload checksum (R142, R144). -/
theorem run_checksum {s : State} (hp : s.phase = .pcrc) (hi : s.idx = 0#32) {x : Word} {after : Supply Byte}
    {more : Supply Input} (bytes : Supply.Gives Config.freeByte (be32Bytes x) s.stream after)
    (moves : Supply.Gives Config.freeMove (List.replicate 4 .src) s.inputs more) :
    Host.Core.run core 4 s = payloadCheck ((s.checksumTaken x).givenBytes (be32Bytes x) after more) := by
  have hr (xs : List Byte) : (s.checksumRead xs).phase.reads = true := by
    change s.phase.reads = true
    rw [hp]; rfl
  obtain ⟨xs, b, hxs, hn, run⟩ := run_lastByte (g := s.checksumRead) (n := 3) (fun xs _ => hr xs)
    (fun xs b stream inputs h => (takeSrcAnswer_checksumRead hp h.le b _ stream inputs).trans (if_pos h))
    rfl bytes moves
  rw [checksumRead_nil hi, givenBytes_nil] at run
  rw [run, takeSrcAnswer_checksumRead hp hn.le, if_neg (by omega), ← hxs, hn, latchChecksum_checksumRead]

/-- The state of a payload section received whole, its checksum latched (R142, R144). -/
def State.payloadTaken (s : State) (body : List Byte) : State :=
  { s.checksumTaken (crc32 body) with phase := .pcrc, pbuf := body, crc := crcRegister body }

/-- The run over a right payload section ends with the frame's operation (R73, R140, R142, R144). -/
theorem run_payload {s : State} {body : List Byte} (h : s.plen.toNat = body.length) (hpos : 0 < body.length)
    {after : Supply Byte} {more : Supply Input}
    (bytes : Supply.Gives Config.freeByte (body ++ be32Bytes (crc32 body)) s.stream after)
    (moves : Supply.Gives Config.freeMove (List.replicate (body.length + 4) .src) s.inputs more) :
    Host.Core.run core (body.length + 4) (payBegin s) =
      exec s.frameInstr ((s.payloadTaken body).givenBytes (body ++ be32Bytes (crc32 body)) after more) := by
  rw [List.replicate_add] at moves
  obtain ⟨stream, hb, hk⟩ := gives_append.1 bytes
  obtain ⟨inputs, hi, hj⟩ := gives_append.1 moves
  have reading (xs : List Byte) (hx : xs.length < body.length) : (s.bodyRead xs).phase.reads = true := by
    simp [State.bodyRead, h, hx, Phase.reads]
  have runBody := run_givenBytes (g := s.bodyRead) reading
    (fun xs b stream inputs hx => takeSrcAnswer_bodyRead (hx.trans_eq h.symm) b _ stream inputs) le_rfl hb hi
  have begin : payBegin s = (s.bodyRead []).givenBytes [] s.stream s.inputs :=
    (payBegin_eq_bodyRead (hpos.trans_eq h.symm)).trans (givenBytes_nil _).symm
  rw [begin, run_add 4 runBody, bodyRead_whole h, run_checksum rfl rfl hk hj]
  have taken : (State.checksumTaken (State.givenBytes { s with
      phase := .pcrc, idx := 0#32, pbuf := body, crc := crcRegister body } body stream inputs) (crc32 body)).givenBytes
        (be32Bytes (crc32 body)) after more =
      (s.payloadTaken body).givenBytes (body ++ be32Bytes (crc32 body)) after more :=
    givenBytes_givenBytes (s.payloadTaken body) _ _ _ _ _ _
  rw [taken]
  exact if_pos rfl

/-! ### The frame -/

/-- The operation of a right header is the decoder's reading of its word 0 (R77). -/
theorem frameInstr_headerTaken (s : State) (v : Byte) (c : Code) (n : Word) :
    (s.headerTaken v c n).frameInstr = decodeW0 (encodeW0 v c) := by
  have hc : (c.setWidth 32).setWidth 24 = c := by
    apply BitVec.eq_of_toNat_eq
    simp only [BitVec.toNat_setWidth]; omega
  rw [State.frameInstr, State.latchedW0, State.headerTaken, hc]

theorem afterHeaderCheck_empty {s : State} (h : s.plen = 0#32) : afterHeaderCheck s = exec s.frameInstr s := if_pos h

theorem afterHeaderCheck_fits {s : State} (h : s.plen ≠ 0#32) (fits : s.plen.toNat ≤ s.params.payloadMax.toNat) :
    afterHeaderCheck s = .next (payBegin s) := (if_neg h).trans (if_neg fits.not_gt)

/-- The run over a frame without a body (R74, R127). -/
theorem run_emptyFrame {s : State} (hp : s.phase = .hdr) (hi : s.idx = 0#32) (hc : s.crc = crcInitial) {v : Byte}
    {c : Code} {after : Supply Byte} {more : Supply Input}
    (bytes : Supply.Gives Config.freeByte (headerBytes v c 0#32) s.stream after)
    (moves : Supply.Gives Config.freeMove (List.replicate 12 .src) s.inputs more) :
    Host.Core.run core 12 s = exec (decodeW0 (encodeW0 v c))
      ((s.headerTaken v c 0#32).givenBytes (headerBytes v c 0#32) after more) := by
  rw [run_header hp hi hc bytes moves, ← frameInstr_headerTaken s v c 0#32]
  exact afterHeaderCheck_empty rfl

/-- The run over a frame with a body that fits (R70, R73, R128, R129). -/
theorem run_fullFrame {s : State} (hp : s.phase = .hdr) (hi : s.idx = 0#32) (hc : s.crc = crcInitial) {v : Byte}
    {c : Code} {n : Word} {body : List Byte} (hn : n.toNat = body.length) (hpos : 0 < body.length)
    (fits : body.length ≤ s.params.payloadMax.toNat) {after : Supply Byte} {more : Supply Input}
    (bytes : Supply.Gives Config.freeByte (headerBytes v c n ++ (body ++ be32Bytes (crc32 body))) s.stream after)
    (moves : Supply.Gives Config.freeMove (List.replicate (12 + (body.length + 4)) .src) s.inputs more) :
    Host.Core.run core (12 + (body.length + 4)) s = exec (decodeW0 (encodeW0 v c))
      (((s.headerTaken v c n).payloadTaken body).givenBytes
        (headerBytes v c n ++ (body ++ be32Bytes (crc32 body))) after more) := by
  rw [List.replicate_add] at moves
  obtain ⟨stream, hb, hk⟩ := gives_append.1 bytes
  obtain ⟨inputs, hi', hj⟩ := gives_append.1 moves
  have n0 : n ≠ 0#32 := by
    rintro rfl
    simp at hn
    omega
  have header : Host.Core.run core 12 s =
      .next (payBegin ((s.headerTaken v c n).givenBytes (headerBytes v c n) stream inputs)) := by
    rw [run_header hp hi hc hb hi']
    exact afterHeaderCheck_fits n0 (hn.trans_le fits)
  rw [run_add _ header, run_payload (s := (s.headerTaken v c n).givenBytes _ stream inputs) hn hpos hk hj,
    ← frameInstr_headerTaken s v c n]
  exact congrArg (exec _) (givenBytes_givenBytes ((s.headerTaken v c n).payloadTaken body) _ _ stream _ inputs _)

/-- Settles O49: a frame without a body ends with its header, any other with its payload section. -/
theorem wholeFrameIsReadAndRun : Obligations.WholeFrameIsReadAndRun := by
  unfold Obligations.WholeFrameIsReadAndRun
  intro s v c body after more hp hi hc fits bytes moves
  by_cases hb : body = []
  · subst hb
    have frame : frameBytes v c [] = headerBytes v c 0#32 := by simp [frameBytes, payloadBytes]
    rw [if_pos rfl] at moves ⊢
    rw [frame] at bytes ⊢
    exact ⟨_, run_emptyFrame hp hi hc bytes moves, filled_toList _ rfl, rfl, rfl, rfl, rfl, rfl, by simp,
      fun _ => ⟨rfl, rfl, rfl⟩, rfl, rfl, rfl, rfl⟩
  · have frame : frameBytes v c body =
        headerBytes v c (BitVec.ofNat 32 body.length) ++ (body ++ be32Bytes (crc32 body)) := by
      simp [frameBytes, payloadBytes, hb]
    have hn : (BitVec.ofNat 32 body.length).toNat = body.length := by
      rw [BitVec.toNat_ofNat, Nat.mod_eq_of_lt (fits.trans_lt s.params.payloadMax.isLt)]
    rw [if_neg hb, show 16 + body.length = 12 + (body.length + 4) by omega] at moves ⊢
    rw [frame] at bytes ⊢
    exact ⟨_, run_fullFrame hp hi hc hn (List.length_pos_iff.2 hb) fits bytes moves, filled_toList _ rfl, rfl, rfl,
      rfl, rfl, rfl, fun _ => ⟨rfl, filled_toList _ rfl, rfl⟩, fun h => absurd h hb, rfl, rfl, rfl, rfl⟩

end Sys2Proof.Machine
end

section
/-!
PROOFS. The words of the opcode table: decoding against encoding, in both directions (R72, R77, R81, R89), the bits of a
CTRL value that a command depends on (R81, R82), and the two ways in which the block waits (R88, R220, R221). Each
decoder gives back the instruction of a word, and every word is that of an instruction; both directions follow.
-/

namespace Sys2Proof.Machine

/-! ### Header words -/

/-- The five codes of the type table, by value (R76). -/
theorem codeIsNamed_iff (t : Code) :
    codeIsNamed t = true ↔
      t = 0x800001#24 ∨ t = 0x800002#24 ∨ t = 0x800003#24 ∨ t = 0x800004#24 ∨ t = 0x800005#24 := by
  simp only [codeIsNamed, Bool.and_eq_true, decide_eq_true_eq]
  bv_omega

/-- A code the type table does not name matches none of its five patterns (R76, R77). -/
theorem setWidth_notMem_of_unnamed {t : Code} (h : codeIsNamed t = false) :
    t.setWidth 32 ∉ [0x00800001#32, 0x00800002#32, 0x00800003#32, 0x00800004#32, 0x00800005#32] := by
  simp only [codeIsNamed, Bool.and_eq_false_iff, decide_eq_false_iff_not] at h
  simp only [List.mem_cons, List.not_mem_nil, or_false, ← BitVec.toNat_inj, BitVec.toNat_setWidth, BitVec.toNat_ofNat]
  omega

/-- A header word that matches none of the five patterns decodes to FRAME.UNKNOWN with its own code (R77). -/
theorem decodeW0_default {w : Word}
    (h : w &&& 0x00FFFFFF#32 ∉ [0x00800001#32, 0x00800002#32, 0x00800003#32, 0x00800004#32, 0x00800005#32]) :
    decodeW0 w = .frameUnknown (w.extractLsb' 24 8) (w.extractLsb' 0 24) := by
  simp only [List.mem_cons, List.not_mem_nil, or_false, not_or] at h
  obtain ⟨h1, h2, h3, h4, h5⟩ := h
  simp only [decodeW0, if_neg h1, if_neg h2, if_neg h3, if_neg h4, if_neg h5]

/-- A well-formed frame operation is decoded from its own word (R72, R77). -/
theorem decodeW0_word {i : Instr} (wf : i.wellFormed = true) (hf : i.tableRow.format = .frameHdrW0) :
    decodeW0 i.word = i := by
  cases i with
  | frameRecord v | frameException v | frameStats v | frameContinuation v | frameEnd v => simp [Instr.word, decodeW0]
  | frameUnknown v t =>
    have unnamed : codeIsNamed t = false := by simpa [Instr.wellFormed] using wf
    rw [Instr.word, decodeW0_default (by rw [encodeW0_masked]; exact setWidth_notMem_of_unnamed unnamed),
      encodeW0_version, encodeW0_type]
  | cmdStart m r | cmdAbort st m r | cmdNop m r => cases hf

/-- Every word is the header word of a well-formed frame operation: of its type code's, with its version (R72, R89). -/
theorem exists_frame_word (w : Word) :
    ∃ i : Instr, i.wellFormed = true ∧ i.tableRow.format = .frameHdrW0 ∧ i.word = w := by
  obtain ⟨v, t, rfl⟩ : ∃ v t, encodeW0 v t = w := ⟨_, _, encodeW0_of_parts w⟩
  cases h : codeIsNamed t with
  | false => exact ⟨.frameUnknown v t, by simp [Instr.wellFormed, h], rfl, rfl⟩
  | true =>
    obtain rfl | rfl | rfl | rfl | rfl := (codeIsNamed_iff t).1 h
    · exact ⟨.frameRecord v, rfl, rfl, rfl⟩
    · exact ⟨.frameException v, rfl, rfl, rfl⟩
    · exact ⟨.frameStats v, rfl, rfl, rfl⟩
    · exact ⟨.frameContinuation v, rfl, rfl, rfl⟩
    · exact ⟨.frameEnd v, rfl, rfl, rfl⟩

/-! ### CTRL values -/

/-- A command is decoded from its own word (R37, R81). -/
theorem decodeCtrl_word {i : Instr} (hf : i.tableRow.format = .ctrlWrite) : decodeCtrl i.word = i := by
  cases i with
  | cmdStart m r | cmdAbort st m r | cmdNop m r => simp [Instr.word, decodeCtrl]
  | frameRecord v | frameException v | frameStats v | frameContinuation v | frameEnd v | frameUnknown v t => cases hf

/-- Every word is the CTRL value of a command: of its ABORT and START bits', with its other fields (R37, R89). -/
theorem exists_command_word (w : Word) :
    ∃ i : Instr, i.wellFormed = true ∧ i.tableRow.format = .ctrlWrite ∧ i.word = w := by
  obtain ⟨r, m, abort, start, rfl⟩ : ∃ r m abort start, encodeCtrl r m abort start = w :=
    ⟨_, _, _, _, encodeCtrl_of_parts w⟩
  match abort, start with
  | true, start => exact ⟨.cmdAbort start m r, rfl, rfl, rfl⟩
  | false, true => exact ⟨.cmdStart m r, rfl, rfl, rfl⟩
  | false, false => exact ⟨.cmdNop m r, rfl, rfl, rfl⟩

/-- A command leaves ctrl_mode as it wrote it (R180). -/
theorem commandEffect_ctrlMode {m : Mode} {i : Instr} {s t : State} (fx : CommandEffect m i s t) : t.ctrlMode = m := by
  cases fx <;> rfl

/-- A command acts by the three low bits of its value, whatever the reserved bits hold (R81, R82). -/
theorem exec_decodeCtrl_congr {u v : Word} (h : u.extractLsb' 0 3 = v.extractLsb' 0 3) (s : State) :
    exec (decodeCtrl u) s = exec (decodeCtrl v) s := by
  have low (k : Nat) (hk : k < 3) : u.getLsbD k = v.getLsbD k := by
    simpa [BitVec.getLsbD_extractLsb', hk] using congrArg (BitVec.getLsbD · k) h
  unfold decodeCtrl
  rw [low 0 (by decide), low 1 (by decide), low 2 (by decide)]
  dsimp only
  split_ifs <;> rfl

/-! ### Both formats -/

/-- A header of any bytes after its first word decodes to the operation of that word and leaves those bytes (R57). -/
theorem decode_header (w : Word) (rest : List Byte) :
    decode (.header (be32Bytes w ++ rest)) = .ok (decodeW0 w, rest) :=
  congrArg (fun x => Except.ok (decodeW0 x, rest)) (be32_of_parts w)

theorem encode_frame {i : Instr} (hf : i.tableRow.format = .frameHdrW0) : encode i = .header (be32Bytes i.word) := by
  rw [encode, hf]

theorem encode_command {i : Instr} (hf : i.tableRow.format = .ctrlWrite) : encode i = .ctrl i.word := by
  rw [encode, hf]

/-- Settles O1: by the format, a frame's word laid out as bytes and a command's word as it is. -/
theorem decodeInvertsEncode : Obligations.DecodeInvertsEncode := by
  unfold Obligations.DecodeInvertsEncode
  intro i wf
  cases hf : i.tableRow.format with
  | frameHdrW0 =>
    have leaves (rest : List Byte) : decode (.header (be32Bytes i.word ++ rest)) = .ok (i, rest) := by
      rw [decode_header, decodeW0_word wf hf]
    rw [encode_frame hf]
    refine ⟨by simpa using leaves [], ?_⟩
    rintro bytes rest ⟨⟩
    exact leaves rest
  | ctrlWrite =>
    rw [encode_command hf, decode, decodeCtrl_word hf]
    exact ⟨rfl, fun _ _ h => by cases h⟩

/-- Settles O2: a word is the word of some instruction of the format, and so of the one it decodes to. -/
theorem everyWordIsOneInstruction : Obligations.EveryWordIsOneInstruction := by
  unfold Obligations.EveryWordIsOneInstruction
  intro w
  constructor
  · obtain ⟨i, wf, hf, rfl⟩ := exists_frame_word w
    rw [decodeW0_word wf hf]
    exact ⟨wf, hf, rfl⟩
  · obtain ⟨i, wf, hf, rfl⟩ := exists_command_word w
    rw [decodeCtrl_word hf]
    exact ⟨wf, hf, rfl⟩

/-! ### The rows of the type table -/

/-- A row that is matched under the type mask is a frame's, so its pattern alone tells it (R77). -/
theorem tableRow_of_typeMask {i : Instr} (h : i.tableRow.mask = 0x00FFFFFF#32) :
    i.tableRow = ⟨.frameHdrW0, 0x00FFFFFF#32, i.tableRow.pattern⟩ := by
  cases i with
  | frameRecord v | frameException v | frameStats v | frameContinuation v | frameEnd v => rfl
  | frameUnknown v t | cmdStart m r | cmdAbort st m r | cmdNop m r => simp [Instr.tableRow] at h

/-- The version bits take no part in which row a header word matches (R77). -/
theorem tableRow_decodeW0_congr {w0 w1 : Word} (h : w1 &&& 0x00FFFFFF#32 = w0 &&& 0x00FFFFFF#32) :
    (decodeW0 w1).tableRow = (decodeW0 w0).tableRow := by
  unfold decodeW0
  rw [h]
  dsimp only
  split_ifs <;> rfl

/-- The type code of a header word, padded, is what the type mask leaves of it (R58, R72). -/
theorem setWidth_type (w : Word) : (w.extractLsb' 0 24).setWidth 32 = w &&& 0x00FFFFFF#32 := by
  rw [← encodeW0_masked (w.extractLsb' 24 8), encodeW0_of_parts]

/-- Settles O3: the patterns by the decoder's own match, non-overlap because two frame rows differ in their patterns. -/
theorem typeIsMatchedOnHeaderWord : Obligations.TypeIsMatchedOnHeaderWord := by
  unfold Obligations.TypeIsMatchedOnHeaderWord
  intro w0
  refine ⟨?_, ?_, ?_, ?_, ?_, fun h => ⟨_, decodeW0_default h, setWidth_type w0⟩, ?apart,
    fun _ => tableRow_decodeW0_congr⟩
  case apart =>
    intro i j hi hj matchesI matchesJ
    have patterns : i.tableRow.pattern = j.tableRow.pattern := by rw [← matchesI, ← matchesJ, hi, hj]
    rw [tableRow_of_typeMask hi, tableRow_of_typeMask hj, patterns]
  all_goals
    intro h
    rw [decodeW0, h]
    rfl

/-! ### Commands, sample words and waiting -/

/-- Settles O4: the command and its write of ctrl_mode by the three low bits. -/
theorem ctrlValueIsOneCommand : Obligations.CtrlValueIsOneCommand := by
  unfold Obligations.CtrlValueIsOneCommand
  intro v
  refine ⟨fun abort => ⟨_, _, _, if_pos abort⟩,
    fun noAbort start => ⟨_, _, (if_neg (ne_true_of_eq_false noAbort)).trans (if_pos start)⟩,
    fun noAbort noStart =>
      ⟨_, _, (if_neg (ne_true_of_eq_false noAbort)).trans (if_neg (ne_true_of_eq_false noStart))⟩,
    fun s => ?_, fun u h s => exec_decodeCtrl_congr h s⟩
  obtain ⟨t, e, fx⟩ := exec_command v s
  exact ⟨t, e, commandEffect_ctrlMode fx⟩

/-- Settles O5: six fixed words, each evaluated. -/
theorem sampleWordsDecode : Obligations.SampleWordsDecode := by
  unfold Obligations.SampleWordsDecode
  decide

/-- Settles O10: with no move nothing is done, and SRC without a byte or an end gives no answer. -/
theorem waitingChangesNothing : Obligations.WaitingChangesNothing := by
  unfold Obligations.WaitingChangesNothing
  refine ⟨fun s h => step_waits h, fun s rest hr h hb he => ?_⟩
  have noAnswer : srcMove { s with inputs := rest } = .next { s with inputs := rest } := by
    rw [srcMove_noByte (s := { s with inputs := rest }) hr hb]
    exact if_neg (ne_true_of_eq_false he)
  exact (step_moves h).trans noAnswer

end Sys2Proof.Machine
end

section
/-!
PROOFS. The CRC-32 register (R100 to R104, R110) and what its check detects (R109). A turn of the bit loop can be undone,
because the reflected polynomial sets bit 31 and the shift clears it; so the register's function is injective in the
register and in the byte, and one changed byte changes the checksum of a sequence.
-/

namespace Sys2Proof.Machine

/-! ### The register's function is R100's -/

theorem crcBits_eq_iterate (n : Nat) (c : Word) : crcBits n c = crcBit^[n] c := by
  induction n generalizing c with
  | zero => rfl
  | succ n ih => exact ih (crcBit c)

/-- A sequence of registers, each one turn of the bit loop after the one before (R100). -/
theorem crcBits_of_turns {r : Nat → Word} (n : Nat) (turn : ∀ k, k < n → r (k + 1) = crcBit (r k)) :
    crcBits n (r 0) = r n := by
  rw [crcBits_eq_iterate]
  induction n with
  | zero => rfl
  | succ n ih =>
    rw [Function.iterate_succ_apply', ih fun k h => turn k (by omega)]
    exact (turn n n.lt_succ_self).symm

/-- Settles O51: the bit loop by its turns, the updates by their definitions, R110's values by evaluation. -/
theorem crcIsThatOfR100 : Obligations.CrcIsThatOfR100 := by
  unfold Obligations.CrcIsThatOfR100
  refine ⟨fun c b r start turn => ?_, fun _ => rfl, fun _ => ⟨rfl, rfl⟩, fun _ => rfl, fun _ _ => rfl, ?values⟩
  · rw [crcStep, ← start]
    exact crcBits_of_turns 8 turn
  case values => simp [crc32, crcFinal, crcRegister, crcInitial, crcStep, crcBits, crcBit, List.replicate]

/-! ### A changed byte changes the checksum -/

/-- A turn of the bit loop keeps in bit 31 the bit that it shifts out. -/
theorem crcBit_top (c : Word) : (crcBit c).getLsbD 31 = c.getLsbD 0 := by
  unfold crcBit
  split
  case isTrue odd => simpa using odd
  case isFalse even => simpa using even

theorem crcBit_injective : Function.Injective crcBit := by
  intro c d h
  have low : c.getLsbD 0 = d.getLsbD 0 := by rw [← crcBit_top, h, crcBit_top]
  have high : c >>> 1 = d >>> 1 := by
    unfold crcBit at h
    rw [low] at h
    split at h
    · exact (BitVec.xor_left_inj _).1 h
    · exact h
  refine BitVec.eq_of_getLsbD_eq fun i _ => ?_
  cases i with
  | zero => exact low
  | succ i => simpa [Nat.add_comm] using congrArg (BitVec.getLsbD · i) high

theorem crcBits_injective (n : Nat) : Function.Injective (crcBits n) := by
  rw [funext (crcBits_eq_iterate n)]
  exact crcBit_injective.iterate n

theorem crcStep_injective_register (b : Byte) : Function.Injective (crcStep · b) :=
  fun _ _ h => (BitVec.xor_left_inj _).1 (crcBits_injective 8 h)

theorem crcStep_injective_byte (c : Word) : Function.Injective (crcStep c) := by
  intro a b h
  have wide : a.setWidth 32 = b.setWidth 32 := (BitVec.xor_right_inj c).1 (crcBits_injective 8 h)
  simpa using congrArg (BitVec.setWidth 8) wide

theorem foldl_crcStep_injective (bytes : List Byte) : Function.Injective (bytes.foldl crcStep) := by
  induction bytes with
  | nil => exact Function.injective_id
  | cons b bytes ih => exact ih.comp (crcStep_injective_register b)

/-- The registers after two sequences that differ in one byte at most agree only if they agree in that byte. -/
theorem eq_of_foldl_crcStep_set {bytes : List Byte} {k : Nat} (hk : k < bytes.length) {x : Byte} {c : Word}
    (h : (bytes.set k x).foldl crcStep c = bytes.foldl crcStep c) : x = bytes[k] := by
  induction bytes generalizing k c with
  | nil => exact absurd hk (Nat.not_lt_zero k)
  | cons b bytes ih =>
    cases k with
    | zero => exact crcStep_injective_byte c (foldl_crcStep_injective bytes h)
    | succ k => exact ih (Nat.lt_of_succ_lt_succ hk) h

/-- One changed byte changes the checksum (R109). -/
theorem crc32_set_ne {bytes : List Byte} {k : Nat} (hk : k < bytes.length) {x : Byte} (hx : x ≠ bytes[k]) :
    crc32 (bytes.set k x) ≠ crc32 bytes :=
  fun h => hx (eq_of_foldl_crcStep_set hk ((BitVec.xor_left_inj _).1 h))

/-! ### A changed byte of a declared checksum -/

theorem be32_inj {a b c d a' b' c' d' : Byte} :
    be32 a b c d = be32 a' b' c' d' ↔ a = a' ∧ b = b' ∧ c = c' ∧ d = d' := by
  refine ⟨fun h => ?_, fun ⟨ha, hb, hc, hd⟩ => by rw [ha, hb, hc, hd]⟩
  simpa using congrArg be32Bytes h

theorem payloadChecksum_set_ne {p : Vector Byte 4} {k : Nat} (hk : k < 4) {x : Byte} (hx : x ≠ p[k]) :
    payloadChecksum (p.set k x) ≠ payloadChecksum p := by
  intro h
  obtain ⟨h0, h1, h2, h3⟩ := be32_inj.1 h
  obtain rfl | rfl | rfl | rfl : k = 0 ∨ k = 1 ∨ k = 2 ∨ k = 3 := by omega
  exacts [hx (by simpa using h0), hx (by simpa using h1), hx (by simpa using h2), hx (by simpa using h3)]

theorem headerChecksum_set_ne {h : Vector Byte 12} {k : Nat} (hk : k < 12) (declared : 8 ≤ k) {x : Byte}
    (hx : x ≠ h[k]) : headerChecksum (h.set k x) ≠ headerChecksum h := by
  intro e
  obtain ⟨h8, h9, h10, h11⟩ := be32_inj.1 e
  obtain rfl | rfl | rfl | rfl : k = 8 ∨ k = 9 ∨ k = 10 ∨ k = 11 := by omega
  exacts [hx (by simpa using h8), hx (by simpa using h9), hx (by simpa using h10), hx (by simpa using h11)]

theorem headerChecksum_set_covered {h : Vector Byte 12} {k : Nat} (covered : k < 8) (x : Byte) :
    headerChecksum (h.set k x) = headerChecksum h := by
  simp (disch := omega) only [headerChecksum, Vector.getElem_set_ne]

/-! ### Where the checks are made -/

/-- A header with a right checksum fails the check once one of its bytes is changed (R106, R109). -/
theorem header_mismatch_of_set {h : Vector Byte 12} {k : Nat} (hk : k < 12) {x : Byte}
    (right : headerChecksum h = crc32 (h.toList.take 8)) (hx : x ≠ h[k]) :
    crc32 ((h.set k x).toList.take 8) ≠ headerChecksum (h.set k x) := by
  rw [Vector.toList_set]
  by_cases covered : k < 8
  · rw [headerChecksum_set_covered covered, right, List.take_set]
    exact crc32_set_ne (by simp; omega) (by simpa using hx)
  · rw [List.take_set_of_le (by omega), ← right]
    exact (headerChecksum_set_ne hk (by omega) hx).symm

/-- A payload section with a right checksum fails the check once a byte of its body or of its checksum is changed (R107,
R109). -/
theorem payload_mismatch_of_set {body received : List Byte} {declared p : Vector Byte 4}
    (right : payloadChecksum declared = crc32 body)
    (changed : (∃ (k : Fin body.length) (x : Byte), x ≠ body[k] ∧ received = body.set k x ∧ p = declared) ∨
      ∃ (k : Fin 4) (x : Byte), x ≠ declared[k] ∧ received = body ∧ p = declared.set k x) :
    crc32 received ≠ payloadChecksum p := by
  obtain ⟨k, x, hx, rfl, rfl⟩ | ⟨k, x, hx, rfl, rfl⟩ := changed
  · rw [right]
    exact crc32_set_ne k.isLt hx
  · rw [← right]
    exact (payloadChecksum_set_ne k.isLt hx).symm

/-- A failing CRC_CHECK ends the session in ERROR with class CHECKSUM and its place (R105, R201, R207). -/
theorem crcCheck_raises {declared : Word} (wh : ErrWhere) {s : State} (k : State → Host.Outcome State Fault Refusal)
    (h : crcFinal s.crc ≠ declared) :
    ∃ t, crcCheck declared wh s k = .next t ∧ t.phase = .error ∧ t.errClass = .checksum ∧ t.errWhere = wh :=
  ⟨_, if_neg h, rfl, rfl, rfl⟩

/-- Storing the last header byte (R120). -/
theorem storeHeaderByte_last {s : State} (b : Byte) (last : s.idx.toNat = 11) :
    (storeHeaderByte b s).hbuf = s.hbuf.set 11 b :=
  Vector.toList_inj.1 (by simp only [storeHeaderByte_hbuf, Vector.toList_setIfInBounds, Vector.toList_set, last])

/-- Storing the last byte of a payload checksum (R142). -/
theorem storeChecksumByte_last {s : State} (b : Byte) (last : s.idx.toNat = 3) :
    (storeChecksumByte b s).pcbuf = s.pcbuf.set 3 b :=
  Vector.toList_inj.1 (by simp only [storeChecksumByte_pcbuf, Vector.toList_setIfInBounds, Vector.toList_set, last])

/-- Header byte 11 brings the header check on the twelve bytes (R106, R120, R123). -/
theorem headerByte_raises {s : State} {b : Byte} (I : s.Inv) (hp : s.phase = .hdr) (last : s.idx.toNat = 11)
    (mismatch : crc32 ((s.hbuf.set 11 b).toList.take 8) ≠ headerChecksum (s.hbuf.set 11 b)) :
    ∃ t, headerByte b s = .next t ∧ t.phase = .error ∧ t.errClass = .checksum ∧ t.errWhere = .header := by
  have covers := storeHeaderByte_crc_covers b last.le (I.headerCrc hp)
  rw [storeHeaderByte_last b last, last] at covers
  rw [headerByte, if_neg (by omega)]
  refine crcCheck_raises .header afterHeaderCheck ?_
  rw [latchHeader_hcrc, latchHeader_crc, storeHeaderByte_last b last, covers]
  exact mismatch

/-- Checksum byte 3 brings the payload check on the whole body (R107, R142, R144). -/
theorem checksumByte_raises {s : State} {b : Byte} (I : s.Inv) (hp : s.phase = .pcrc) (last : s.idx.toNat = 3)
    (mismatch : crc32 s.pbuf ≠ payloadChecksum (s.pcbuf.set 3 b)) :
    ∃ t, checksumByte b s = .next t ∧ t.phase = .error ∧ t.errClass = .checksum ∧ t.errWhere = .payload := by
  obtain ⟨covers, -⟩ := I.bodyCrc (.inr hp)
  rw [checksumByte, if_neg (by omega)]
  refine crcCheck_raises .payload _ ?_
  rw [latchChecksum_pcrc, latchChecksum_crc, storeChecksumByte_last b last, storeChecksumByte_crc, covers]
  exact mismatch

/-- Settles O50: a changed byte makes a mismatch, and the last byte of the section makes the check. -/
theorem singleByteCorruptionIsDetected : Obligations.SingleByteCorruptionIsDetected := by
  unfold Obligations.SingleByteCorruptionIsDetected
  refine ⟨fun s b bytes rest h k x I hp hi hb right hx received => ?_,
    fun s b bytes rest body declared I hp hi hb right changed => ?_⟩
  · have last : s.idx.toNat = 11 := by rw [hi]; rfl
    rw [step_byte (by rw [hp]; rfl) hb, takeSrcAnswer_header (s := s.givenByte b bytes rest) hp last.le]
    refine headerByte_raises (inv_agents I _ _ _ _) hp last ?_
    exact received ▸ header_mismatch_of_set k.isLt right hx
  · have last : s.idx.toNat = 3 := by rw [hi]; rfl
    rw [step_byte (by rw [hp]; rfl) hb, takeSrcAnswer_checksum (s := s.givenByte b bytes rest) hp last.le]
    exact checksumByte_raises (inv_agents I _ _ _ _) hp last (payload_mismatch_of_set right changed)

end Sys2Proof.Machine
end

section
/-!
PROOFS. The header and the ends of stream (R120 to R129, R141, R143): storing a header byte, what HDR_COMPLETE does by
the order of its checks (R123, R124), and the step that brings a header byte or EOS.
-/

namespace Sys2Proof.Machine

/-- The entry into the error state, field by field (R207). -/
theorem raise_eq_raisedState (cls : ErrClass) (wh : ErrWhere) (info crc : Word) (s : State) :
    raise cls wh info crc s = raisedState s cls wh info crc := rfl

/-! ### Header bytes 0 to 10 -/

/-- A header byte before the last is stored, fed to the CRC up to byte 7, and idx advances (R106, R120). -/
theorem headerByte_before {s : State} (b : Byte) (k : Fin 11) (hi : s.idx = BitVec.ofNat 32 k) :
    headerByte b s = .next { s with
      hbuf := s.hbuf.set k b
      crc  := if (k : Nat) ≤ 7 then crcStep s.crc b else s.crc
      idx  := BitVec.ofNat 32 (k + 1) } := by
  have hk : s.idx.toNat = k := by rw [hi, BitVec.toNat_ofNat]; omega
  have stored : s.hbuf.setIfInBounds k b = s.hbuf.set k b :=
    Vector.toList_inj.1 (by rw [Vector.toList_setIfInBounds, Vector.toList_set])
  have next : s.idx + 1#32 = BitVec.ofNat 32 (k + 1) := by rw [hi, BitVec.ofNat_add]
  rw [headerByte, if_pos (hk.trans_lt k.isLt)]
  simp only [storeHeaderByte, hk, stored, next]

/-! ### Header byte 11 -/

/-- The last header byte is stored, not fed to the CRC, and completes the header (R106, R120, R123). -/
theorem headerByte_last {s : State} (b : Byte) (hi : s.idx = 11#32) :
    headerByte b s = headerComplete { s with hbuf := s.hbuf.set 11 b } := by
  have last : s.idx.toNat = 11 := by rw [hi]; rfl
  have stored : storeHeaderByte b s = { s with hbuf := s.hbuf.set 11 b } := by
    rw [← storeHeaderByte_last b last]
    simp only [storeHeaderByte, last]
    rfl
  rw [headerByte, if_neg (by omega), stored]

/-- What HDR_COMPLETE does on the latched header, in the order of its checks (R123, R124, R127 to R129). -/
theorem headerComplete_eq (s : State) :
    headerComplete s =
      if crcFinal s.crc ≠ headerChecksum s.hbuf then
        .next (raisedState (latchHeader s) .checksum .header (headerChecksum s.hbuf) (crcFinal s.crc))
      else if headerLength s.hbuf = 0#32 then exec (decodeW0 (headerW0 s.hbuf)) (latchHeader s)
      else if s.params.payloadMax.toNat < (headerLength s.hbuf).toNat then
        .next (raisedState (latchHeader s) .capacity .header (headerLength s.hbuf) 0#32)
      else .next (payBegin (latchHeader s)) := by
  have operation : (latchHeader s).frameInstr = decodeW0 (headerW0 s.hbuf) := frameInstr_of_latched _ rfl rfl
  rw [ite_not, ← operation, ← raise_eq_raisedState, ← raise_eq_raisedState]
  rfl

/-- The header's bytes decode to the operation of header word 0 (R72, R77). -/
theorem decode_headerBuffer (h : Vector Byte 12) :
    decode (.header h.toList) = .ok (decodeW0 (headerW0 h), h.toList.drop 4) := by
  have word : h.toList.take 4 = be32Bytes (headerW0 h) := by
    rw [headerW0, be32Bytes_be32]
    apply List.ext_getElem (by simp)
    intro i hi _
    obtain rfl | rfl | rfl | rfl : i = 0 ∨ i = 1 ∨ i = 2 ∨ i = 3 := by simp at hi; omega
    all_goals simp
  rw [← decode_header, ← word, List.take_append_drop]

/-! ### EOS in a header -/

/-- EOS before a header's first byte ends the session without error (R121, R156). -/
theorem headerEos_clean {s : State} (hi : s.idx = 0#32) :
    headerEos s = { s with phase := .done, closed := true, history := closedHistory s } := by
  rw [headerEos, if_pos hi, finishOk, ← hi]
  rfl

/-- EOS inside a header is MALFORMED with the number of header bytes received (R122). -/
theorem headerEos_short {s : State} (hi : s.idx ≠ 0#32) :
    headerEos s = raisedState s .malformed .header s.idx 0#32 := by
  rw [headerEos, if_neg hi, raise_eq_raisedState]

/-! ### The step -/

/-- SRC's byte in HDR is a header byte (R20, R120). -/
theorem step_headerByte {s : State} {b : Byte} {bytes : Supply Byte} {rest : Supply Input} (hp : s.phase = .hdr)
    (hi : s.idx.toNat ≤ 11) (hb : s.byteComes b bytes rest) : step s = headerByte b (s.givenByte b bytes rest) := by
  rw [step_byte (by rw [hp]; rfl) hb]
  exact takeSrcAnswer_header (s := s.givenByte b bytes rest) hp hi (.byte b)

/-- The step that brings the last header byte completes the header (R120, R123). -/
theorem step_lastHeaderByte {s : State} {b : Byte} {bytes : Supply Byte} {rest : Supply Input} (hp : s.phase = .hdr)
    (hi : s.idx = 11#32) (hb : s.byteComes b bytes rest) :
    step s = headerComplete { s.givenByte b bytes rest with hbuf := s.hbuf.set 11 b } :=
  (step_headerByte hp (by rw [hi]; decide) hb).trans (headerByte_last b hi)

/-- SRC's EOS in HDR (R20, R121, R122). -/
theorem step_headerEos {s : State} {rest : Supply Input} (hp : s.phase = .hdr) (hi : s.idx.toNat ≤ 11)
    (he : s.eosComes rest) : step s = .next (headerEos (s.givenEos rest)) := by
  rw [step_eos (by rw [hp]; rfl) he]
  exact takeSrcAnswer_header (s := s.givenEos rest) hp hi .eos

/-! ### The obligations -/

/-- Settles O7: the header check passes, and the decoder reads header word 0 of the bytes that are latched. -/
theorem stepRunsEmptyFrame : Obligations.StepRunsEmptyFrame := by
  unfold Obligations.StepRunsEmptyFrame
  intro s b bytes rest i more hp hi hb hd hl hc
  rw [decode_headerBuffer] at hd
  obtain ⟨rfl, -⟩ := Prod.mk.inj (Except.ok.inj hd)
  rw [← hl]
  exact (step_lastHeaderByte hp hi hb).trans ((headerComplete_eq _).trans ((if_neg (not_not.2 hc)).trans (if_pos hl)))

/-- Settles O11: a byte before the last is stored, and the last one completes the header. -/
theorem headerByteRule : Obligations.HeaderByteRule := by
  unfold Obligations.HeaderByteRule
  intro s b bytes rest hp hb
  refine ⟨fun k hi => ?_, ?_⟩
  · have inField : s.idx.toNat ≤ 11 := by rw [hi, BitVec.toNat_ofNat]; omega
    exact (step_headerByte hp inField hb).trans (headerByte_before b k hi)
  · rintro hi h u rfl rfl
    rw [step_lastHeaderByte hp hi hb, headerComplete_eq]
    rfl

/-- Settles O12: by the field that EOS cuts off, and in a header by whether a byte of it has come. -/
theorem eosRule : Obligations.EosRule := by
  unfold Obligations.EosRule
  intro s rest he
  refine ⟨fun hp hi => ?_, fun hp h1 h11 => ?_, fun hp hi => ?_, fun hp hi => ?_⟩
  · rw [step_headerEos hp (by rw [hi]; decide) he, headerEos_clean (s := s.givenEos rest) hi]
  · have begun : s.idx ≠ 0#32 := by
      rintro h
      simp [h] at h1
    rw [step_headerEos hp h11 he, headerEos_short (s := s.givenEos rest) begun]
    rfl
  · rw [step_eos (by rw [hp]; rfl) he, takeSrcAnswer_payload (s := s.givenEos rest) hp hi]
    rfl
  · rw [step_eos (by rw [hp]; rfl) he, takeSrcAnswer_checksum (s := s.givenEos rest) hp hi]
    rfl

end Sys2Proof.Machine
end

section
/-!
PROOFS. The payload (R140, R142, R144, R147 to R151): storing a body byte and a checksum byte, the payload check and the
operation it leads to, and the split of a body into offset and data.
-/

namespace Sys2Proof.Machine

/-! ### Body bytes -/

/-- A body byte before the last is appended and fed to the CRC, and idx advances (R140). -/
theorem payloadByte_before {s : State} (b : Byte) (h : s.idx.toNat + 1 < s.plen.toNat) :
    payloadByte b s = { s with
      pbuf := s.pbuf ++ [b], crc := crcStep s.crc b, idx := BitVec.ofNat 32 (s.idx.toNat + 1) } := by
  have next : s.idx + 1#32 = BitVec.ofNat 32 (s.idx.toNat + 1) := by
    rw [BitVec.ofNat_add, BitVec.ofNat_toNat, BitVec.setWidth_eq]
  rw [payloadByte, if_pos h, ← next]
  rfl

/-- The last body byte, the only one included, turns the phase to PCRC at idx 0 (R140). -/
theorem payloadByte_last {s : State} (b : Byte) (h : s.idx.toNat + 1 = s.plen.toNat) :
    payloadByte b s = { s with
      pbuf := s.pbuf ++ [b], crc := crcStep s.crc b, phase := .pcrc, idx := 0#32 } :=
  if_neg h.not_lt

/-- SRC's byte in PAY is a body byte (R20, R140). -/
theorem step_payloadByte {s : State} {b : Byte} {bytes : Supply Byte} {rest : Supply Input} (hp : s.phase = .pay)
    (hi : s.idx.toNat < s.plen.toNat) (hb : s.byteComes b bytes rest) :
    step s = .next (payloadByte b (s.givenByte b bytes rest)) := by
  rw [step_byte (by rw [hp]; rfl) hb]
  exact takeSrcAnswer_payload (s := s.givenByte b bytes rest) hp hi (.byte b)

/-! ### Checksum bytes -/

/-- The state with the four payload-checksum bytes stored and the checksum latched from them (R142). -/
def State.checksumLatched (s : State) (p : Vector Byte 4) : State :=
  { s with pcbuf := p, pcrc := payloadChecksum p }

/-- A checksum byte before the last is stored and not fed to the CRC, and idx advances (R142). -/
theorem checksumByte_before {s : State} (b : Byte) (k : Fin 3) (hi : s.idx = BitVec.ofNat 32 k) :
    checksumByte b s = .next { s with pcbuf := s.pcbuf.set k b, idx := BitVec.ofNat 32 (k + 1) } := by
  have hk : s.idx.toNat = k := by rw [hi, BitVec.toNat_ofNat]; omega
  have stored : s.pcbuf.setIfInBounds k b = s.pcbuf.set k b :=
    Vector.toList_inj.1 (by rw [Vector.toList_setIfInBounds, Vector.toList_set])
  have next : s.idx + 1#32 = BitVec.ofNat 32 (k + 1) := by rw [hi, BitVec.ofNat_add]
  rw [checksumByte, if_pos (hk.trans_lt k.isLt)]
  simp only [storeChecksumByte, hk, stored, next]

/-- The last checksum byte is stored and not fed to the CRC, and brings the payload check on the latched checksum
(R142, R144). -/
theorem checksumByte_last {s : State} (b : Byte) (hi : s.idx = 3#32) :
    checksumByte b s = payloadCheck (s.checksumLatched (s.pcbuf.set 3 b)) := by
  have last : s.idx.toNat = 3 := by rw [hi]; rfl
  rw [← storeChecksumByte_last b last, checksumByte, if_neg (by omega)]
  rfl

/-- The payload check raises CHECKSUM or runs the operation of the frame whose header is held (R105, R144). -/
theorem payloadCheck_eq {s : State} (H : s.HeaderHeld) :
    payloadCheck s =
      if crcFinal s.crc = s.pcrc then exec (decodeW0 (headerW0 s.hbuf)) s
      else .next (raisedState s .checksum .payload s.pcrc (crcFinal s.crc)) := by
  rw [← frameInstr_of_latched s H.version H.typeRaw]
  rfl

/-- SRC's byte in PCRC is a checksum byte (R20, R142). -/
theorem step_checksumByte {s : State} {b : Byte} {bytes : Supply Byte} {rest : Supply Input} (hp : s.phase = .pcrc)
    (hi : s.idx.toNat ≤ 3) (hb : s.byteComes b bytes rest) : step s = checksumByte b (s.givenByte b bytes rest) := by
  rw [step_byte (by rw [hp]; rfl) hb]
  exact takeSrcAnswer_checksum (s := s.givenByte b bytes rest) hp hi (.byte b)

/-- The step that brings the last checksum byte makes the payload check, whose frame is the held header's (R142, R144). -/
theorem step_lastChecksumByte {s : State} {b : Byte} {bytes : Supply Byte} {rest : Supply Input} (I : s.Inv)
    (hp : s.phase = .pcrc) (hi : s.idx = 3#32) (hb : s.byteComes b bytes rest) {u : State}
    (hu : u = (s.givenByte b bytes rest).checksumLatched (s.pcbuf.set 3 b)) :
    step s =
      if crcFinal s.crc = u.pcrc then exec (decodeW0 (headerW0 s.hbuf)) u
      else .next (raisedState u .checksum .payload u.pcrc (crcFinal s.crc)) := by
  subst hu
  have held : ((s.givenByte b bytes rest).checksumLatched (s.pcbuf.set 3 b)).HeaderHeld :=
    (I.header (.inr (.inl hp))).of_fields rfl
  rw [step_checksumByte hp (by rw [hi]; decide) hb, checksumByte_last (s := s.givenByte b bytes rest) b hi]
  exact payloadCheck_eq held

/-! ### The body and its split -/

/-- An empty payload has no body and no checksum (R127). -/
theorem body_of_plen_zero {s : State} (h : s.plen = 0#32) : s.body = none ∧ s.bodyChecksum = none :=
  ⟨if_pos h, if_pos h⟩

/-- Any other payload has both (R144). -/
theorem body_of_plen_ne_zero {s : State} (h : s.plen ≠ 0#32) : s.body = some s.pbuf ∧ s.bodyChecksum = some s.pcrc :=
  ⟨if_neg h, if_neg h⟩

/-- A body that holds a whole offset gives its first 8 bytes and the rest (R147). -/
theorem split_offset {c : ShortOffset} {t : PType} {p : List Byte} (ht : t.hasOffset = true) (hp : 8 ≤ p.length) :
    split c t (some p) = .parts (some (p.take 8)) (if p.length = 8 then none else some (p.drop 8)) := by
  have data : absentIfEmpty (p.drop 8) = if p.length = 8 then none else some (p.drop 8) := by
    split
    · rw [List.drop_of_length_le (by omega), absentIfEmpty_nil]
    · exact absentIfEmpty_of_ne_nil (by rw [Ne, List.drop_eq_nil_iff]; omega)
  rw [← data]
  exact (if_pos ht).trans (if_pos hp)

/-- A body too short for the offset is split as P_SHORT_OFFSET says (R148). -/
theorem split_short {c : ShortOffset} {t : PType} {p : List Byte} (ht : t.hasOffset = true) (hp : p.length < 8) :
    split c t (some p) = splitShort c p :=
  (if_pos ht).trans (if_neg hp.not_ge)

/-- The body of a type without an offset is all data (R150). -/
theorem split_noOffset {c : ShortOffset} {t : PType} {p : List Byte} (ht : t.hasOffset = false) (hp : p ≠ []) :
    split c t (some p) = .parts none (some p) := by
  have noOffset : ¬ t.hasOffset = true := by simp [ht]
  exact (if_neg noOffset).trans (congrArg (SplitResult.parts none) (absentIfEmpty_of_ne_nil hp))

/-- A frame whose split falls short raises MALFORMED before it is counted (R148). -/
theorem completeFrame_short {v : Byte} {p : PType} {act : Frame → State → State} {s : State} {len : Nat}
    (h : split s.params.shortOffset p s.body = .short len) :
    completeFrame v p act s = raisedState s .malformed .payload (BitVec.ofNat 32 len) 0#32 := by
  rw [completeFrame, h]
  rfl

/-- What a well-formed offset is: not empty, and of 8 bytes at most (R86). -/
theorem ne_nil_and_length_le_of_offsetWellFormed {o : Option (List Byte)} (h : offsetWellFormed o = true) :
    o ≠ some [] ∧ ∀ p, o = some p → p.length ≤ 8 := by
  constructor
  · rintro rfl
    exact absurd h (by decide)
  · rintro p rfl
    simp only [offsetWellFormed, Bool.and_eq_true, decide_eq_true_eq] at h
    exact h.2

/-! ### The obligations -/

/-- Settles O13: by whether the byte is the body's last. -/
theorem payloadByteRule : Obligations.PayloadByteRule := by
  unfold Obligations.PayloadByteRule
  intro s b bytes rest hp hi hb
  rw [step_payloadByte hp hi hb]
  exact ⟨fun h => congrArg _ (payloadByte_before (s := s.givenByte b bytes rest) b h),
    fun h => congrArg _ (payloadByte_last (s := s.givenByte b bytes rest) b h)⟩

/-- Settles O14: a byte before the last is stored, and the last one makes the payload check. -/
theorem checksumByteRule : Obligations.ChecksumByteRule := by
  unfold Obligations.ChecksumByteRule
  intro s b bytes rest I hp hb
  refine ⟨fun k hi => ?_, ?_⟩
  · have inField : s.idx.toNat ≤ 3 := by rw [hi, BitVec.toNat_ofNat]; omega
    exact (step_checksumByte hp inField hb).trans (checksumByte_before b k hi)
  · rintro hi p u rfl hu
    exact step_lastChecksumByte I hp hi hb hu

/-- Settles O17: SPLIT answers well-formed parts, whatever it is given. -/
theorem emptyDataIsAbsent : Obligations.EmptyDataIsAbsent := by
  unfold Obligations.EmptyDataIsAbsent
  intro c t body o d h
  obtain ⟨ho, hd⟩ := split_wellFormed h
  exact ⟨of_decide_eq_true hd, ne_nil_and_length_le_of_offsetWellFormed ho⟩

/-- Settles O8: the payload check passes, and the decoder reads header word 0 of the bytes that are held. -/
theorem stepRunsFrameWithPayload : Obligations.StepRunsFrameWithPayload := by
  unfold Obligations.StepRunsFrameWithPayload
  intro s b bytes rest i more I hp hi hb hd hc
  rw [decode_headerBuffer] at hd
  obtain ⟨rfl, -⟩ := Prod.mk.inj (Except.ok.inj hd)
  exact (step_lastChecksumByte I hp hi hb rfl).trans (if_pos hc)

/-- Settles O15: by whether the type bears an offset, and by whether there is a body. -/
theorem splitRules : Obligations.SplitRules := by
  unfold Obligations.SplitRules
  intro c t p
  refine ⟨fun ht hp => split_offset ?_ hp, fun ht hp => split_noOffset ?_ (List.ne_nil_of_length_pos hp), rfl,
    fun s => body_of_plen_zero, fun s => body_of_plen_ne_zero⟩
  · obtain rfl | rfl | rfl := ht <;> rfl
  · obtain rfl | rfl | ⟨r, rfl⟩ := ht <;> rfl

/-- Settles O16: the body is split as P_SHORT_OFFSET says, and a split that falls short raises. -/
theorem shortOffsetRule : Obligations.ShortOffsetRule := by
  unfold Obligations.ShortOffsetRule
  intro i v t s hi hl h1 h7
  have ht : t.hasOffset = true := by obtain ⟨-, rfl⟩ | ⟨-, rfl⟩ | ⟨-, rfl⟩ := hi <;> rfl
  have parts : split s.params.shortOffset t s.body = splitShort s.params.shortOffset s.pbuf := by
    rw [(body_of_plen_ne_zero hl).1, split_short ht (by omega)]
  refine ⟨fun hc => ?_, fun hc => ?_⟩
  · rw [parts, hc, splitShort, absentIfEmpty_of_ne_nil (List.ne_nil_of_length_pos h1)]
  · have short : split s.params.shortOffset t s.body = .short s.pbuf.length := by rw [parts, hc, splitShort]
    obtain ⟨rfl, rfl⟩ | ⟨rfl, rfl⟩ | ⟨rfl, rfl⟩ := hi <;> exact congrArg _ (completeFrame_short short)

end Sys2Proof.Machine
end

section
/-!
PROOFS. Completing a frame and the sink's answer (R145, R152, R154, R157, R160): what a frame operation may write, and
what may still happen once END_SEEN is set. Both are read off the effects of Laws/Ops and Laws/Step.
-/

namespace Sys2Proof.Machine

/-! ### The frame operations -/

/-- The rows of the header-word format are those of the frame operations (R77). -/
theorem exists_frameType {i : Instr} (hf : i.tableRow.format = .frameHdrW0) : ∃ p, frameType i = some p := by
  cases i with
  | cmdStart | cmdAbort | cmdNop => cases hf
  | _ => exact ⟨_, rfl⟩

/-- FRAME.END is the one operation of type END (R76). -/
theorem eq_frameEnd_of_frameType {i : Instr} (h : frameType i = some .endMark) : ∃ v, i = .frameEnd v := by
  cases i with
  | frameEnd v => exact ⟨v, rfl⟩
  | _ => cases h

/-- A frame of any type but END leaves END_SEEN (R145). -/
theorem countFrame_endSeen_cases (p : PType) (s : State) :
    (countFrame p s).endSeen = s.endSeen ∨ p = .endMark := by
  by_cases h : p = .endMark
  · exact .inr h
  · exact .inl (if_neg h)

/-- CLOSE adds one Close at most (R186). -/
theorem historyClosed_cases (s : State) : s.historyClosed = s.history ∨ s.historyClosed = s.history ++ [.close] := by
  rw [State.historyClosed]
  split
  · exact .inl rfl
  · exact .inr rfl

/-- What a frame operation of type p may write, from s to t (R145, R152, R207). -/
structure FrameWrites (p : PType) (s t : State) : Prop where
  rest : t = { s with
    phase := t.phase, idx := t.idx, crc := t.crc, pending := t.pending, endSeen := t.endSeen, closed := t.closed,
    errClass := t.errClass, errWhere := t.errWhere, errInfo := t.errInfo, errCrc := t.errCrc,
    frameCount := t.frameCount, history := t.history }
  crc : t.crc = s.crc ∨ (t.phase = .hdr ∧ t.crc = crcInitial)
  endSeen : t.endSeen = s.endSeen ∨ p = .endMark
  frameCount : t.frameCount = s.frameCount + 1#32 ∨ (t.frameCount = s.frameCount ∧ t.errClass = .malformed)
  history : t.history = s.history ∨ t.history = s.history ++ [.close]

theorem frameEffect_writes {p : PType} {s t : State} (fx : FrameEffect p s t) : FrameWrites p s t := by
  have seen := countFrame_endSeen_cases p s
  have closes := historyClosed_cases s
  cases fx with
  | shortOffset => exact ⟨rfl, .inl rfl, .inl rfl, .inr ⟨rfl, rfl⟩, closes⟩
  | offered => exact ⟨rfl, .inl rfl, seen, .inl rfl, .inl rfl⟩
  | absorbed => exact ⟨rfl, .inr ⟨rfl, rfl⟩, seen, .inl rfl, .inl rfl⟩
  | ended => exact ⟨rfl, .inl rfl, seen, .inl rfl, closes⟩
  | rejected => exact ⟨rfl, .inl rfl, seen, .inl rfl, closes⟩

/-! ### After an END frame -/

/-- With END_SEEN set the block reads nothing, and an event still pending is the END frame's own (R32, R160). -/
theorem State.Inv.of_endSeen {s : State} (I : s.Inv) (h : s.endSeen = true) :
    s.phase.reads = false ∧ (s.phase = .emit → s.ptype = .endMark) := by
  obtain ⟨reading, offering⟩ := I.endSeen
  refine ⟨?_, fun hp => (offering hp).1 h⟩
  cases hr : s.phase.reads with
  | false => rfl
  | true => simp [reading hr] at h

/-- SNK's answer to an END frame's event ends the session, whatever it is (R154, R157). -/
theorem takeAck_endMark (a : Ack) {s : State} (h : s.ptype = .endMark) :
    (takeAck a s).phase.reads = false ∧ (takeAck a s).pending = none ∧ (takeAck a s).endSeen = s.endSeen := by
  cases a with
  | ok =>
    rw [takeAck, emitAckOk, if_pos h]
    exact ⟨rfl, rfl, rfl⟩
  | err => exact ⟨rfl, rfl, rfl⟩

/-- What a step without a read leaves when no frame can follow: END_SEEN, and no new event (R160). -/
structure ReadsNoMore (s t : State) : Prop where
  endSeen : t.endSeen = s.endSeen
  reads : t.phase.reads = false
  pending : t.pending = s.pending ∨ t.pending = none
  history : ∃ added, t.history = s.history ++ added ∧ ∀ o ∈ added, ¬ isRead o

/-- After an agent's entry BLOCK's own part adds no read: Closes alone (R186; log entry 15). -/
theorem no_reads_after_entry {s u t : State} {o : Obs} (ho : ¬ isRead o) (hu : u.history = s.history ++ [o])
    (h : t.history = u.history ∨ t.history = u.historyClosed) :
    ∃ added, t.history = s.history ++ added ∧ ∀ o ∈ added, ¬ isRead o := by
  obtain ⟨closes, hh, hc⟩ := history_after_entry hu h
  refine ⟨_, hh, fun x hx => ?_⟩
  obtain rfl | hx := List.mem_cons.1 hx
  · exact ho
  · rw [hc x hx]
    rintro ⟨a, ⟨⟩⟩

/-- Of all a step can do, START and reset alone lead on from an END frame (R160). -/
theorem step_readsNoMore {s t : State} (hr : s.phase.reads = false) (hemit : s.phase = .emit → s.ptype = .endMark)
    (e : step s = .next t) (hs : startComes s → s.phase.busy = true) (hreset : ¬ resetComes s) : ReadsNoMore s t := by
  have quiet {u : State} (hh : u.history = s.history) :
      ∃ added, u.history = s.history ++ added ∧ ∀ o ∈ added, ¬ isRead o := ⟨[], by simpa using hh, by simp⟩
  cases step_effect e with
  | waits => exact ⟨rfl, hr, .inl rfl, quiet rfl⟩
  | srcWaits => exact ⟨rfl, hr, .inl rfl, quiet rfl⟩
  | gaveByte hr' => simp [hr] at hr'
  | gaveEos hr' => simp [hr] at hr'
  | late => exact ⟨rfl, hr, .inl rfl, quiet rfl⟩
  | acked a ev rest _ hp =>
    obtain ⟨reads, pending, endSeen⟩ := takeAck_endMark a
      (s := { s with inputs := rest, history := s.history ++ [.put ev a] }) (hemit hp)
    exact ⟨endSeen, reads, .inr pending,
      no_reads_after_entry (by rintro ⟨_, ⟨⟩⟩) rfl (takeAck_leavesOrCloses a _).history_cases⟩
  | command v rest h fx =>
    have history := no_reads_after_entry (s := s) (o := .regW 0x00 v) (by rintro ⟨_, ⟨⟩⟩) rfl (commandEffect_history fx)
    cases fx with
    | started r hi hb => exact absurd (hs ⟨v, _, r, rest, h, hi⟩) (by simpa using hb)
    | cancelled => exact ⟨rfl, rfl, .inr rfl, history⟩
    | wrote => exact ⟨rfl, hr, .inl rfl, history⟩
  | accessed i rest o _ _ ho =>
    have noRead : ¬ isRead o := by
      rintro ⟨a, rfl⟩
      simp at ho
    exact ⟨rfl, hr, .inl rfl, no_reads_after_entry noRead rfl (.inl rfl)⟩
  | wasReset rest h => exact absurd ⟨rest, h⟩ hreset
  | connected => exact ⟨rfl, hr, .inl rfl, quiet rfl⟩

/-! ### The obligations -/

/-- Settles O24: each effect of a frame operation writes no more than it may. -/
theorem frameOperationsLeaveTheRest : Obligations.FrameOperationsLeaveTheRest := by
  unfold Obligations.FrameOperationsLeaveTheRest
  intro i s t hf e
  obtain ⟨p, hi⟩ := exists_frameType hf
  obtain ⟨t', e', fx⟩ := exec_frame i p hi s
  obtain rfl : t' = t := Host.Outcome.next.inj (e'.symm.trans e)
  have W := frameEffect_writes fx
  refine ⟨W.rest, W.crc, W.endSeen.imp_right ?_, W.frameCount, W.history⟩
  rintro rfl
  exact eq_frameEnd_of_frameType hi

/-- Settles O45: the invariant leaves no reading phase and no event but END's own, and from there no step reads on. -/
theorem nothingFollowsEnd : Obligations.NothingFollowsEnd := by
  unfold Obligations.NothingFollowsEnd
  intro s t I h e hs hreset
  obtain ⟨hr, hemit⟩ := I.of_endSeen h
  obtain ⟨endSeen, reads, pending, history⟩ := step_readsNoMore hr hemit e hs hreset
  exact ⟨endSeen.trans h, reads, pending, history⟩

/-- Settles O25: EMIT_ACK_OK by whether the frame was END. -/
theorem sinkOkRule : Obligations.SinkOkRule := by
  unfold Obligations.SinkOkRule
  intro s ev rest hp hev h
  rw [step_ack hp hev h]
  exact ⟨fun ht => ⟨0#32, congrArg _ (if_pos ht)⟩, fun ht => congrArg _ (if_neg ht)⟩

/-- Settles O26: EMIT_ACK_ERR is the entry into the error state with class SINK. -/
theorem sinkErrorRule : Obligations.SinkErrorRule := by
  unfold Obligations.SinkErrorRule
  intro s ev rest hp hev h
  rw [step_ack hp hev h, takeAck, emitAckErr, raise_eq_raisedState]
  rfl

end Sys2Proof.Machine
end

section
/-!
PROOFS. The six frame operations, one by one (R170 to R175): the parts SPLIT gives of the frame at hand, the frame and
the counters that FRAME_COMPLETE passes on, and what each type's action does in each mode.
-/

namespace Sys2Proof.Machine

/-! ### The parts of the frame at hand -/

/-- SPLIT of an accepted frame of an offset-bearing type (R147, R148, R151). -/
theorem split_accepted {t : PType} (ht : t.hasOffset = true) {s : State} (h : offsetAccepted s) :
    split s.params.shortOffset t s.body = .parts (strippedOffset s) (strippedData s) := by
  by_cases hl : s.plen = 0#32
  · rw [(body_of_plen_zero hl).1, strippedOffset, strippedData, if_pos (.inl hl), if_pos (.inl hl)]
    rfl
  rw [(body_of_plen_ne_zero hl).1]
  by_cases hp : 8 ≤ s.pbuf.length
  · have notEmpty : s.pbuf ≠ [] := List.ne_nil_of_length_pos (by omega)
    have rest : s.pbuf.length ≤ 8 ↔ s.pbuf.length = 8 := by omega
    simp only [split_offset ht hp, strippedOffset, strippedData, hl, notEmpty, rest, false_or, if_false]
  · have truncates : s.params.shortOffset = .truncate := (h.resolve_left hl).resolve_left hp
    have all : s.pbuf.take 8 = s.pbuf := List.take_of_length_le (by omega)
    have noData : s.plen = 0#32 ∨ s.pbuf.length ≤ 8 := .inr (by omega)
    rw [split_short ht (by omega), truncates, splitShort, strippedData, if_pos noData, strippedOffset, all]
    by_cases hb : s.pbuf = []
    · rw [if_pos (.inr hb), hb, absentIfEmpty_nil]
    · rw [if_neg (not_or.2 ⟨hl, hb⟩), absentIfEmpty_of_ne_nil hb]

/-- SPLIT of a frame of a type without an offset (R150, R151). -/
theorem split_whole {t : PType} (ht : t.hasOffset = false) (s : State) :
    split s.params.shortOffset t s.body = .parts none (wholeBodyData s) := by
  by_cases hl : s.plen = 0#32
  · rw [(body_of_plen_zero hl).1, wholeBodyData, if_pos (.inl hl)]
    rfl
  rw [(body_of_plen_ne_zero hl).1]
  by_cases hb : s.pbuf = []
  · rw [wholeBodyData, if_pos (.inr hb), hb, split, ht]
    rfl
  · rw [wholeBodyData, if_neg (not_or.2 ⟨hl, hb⟩), split_noOffset ht hb]

/-! ### Completing it -/

/-- A frame that is not turned away is counted, built and handed to its type's action (R145, R146). -/
theorem completeFrame_parts {v : Byte} {p : PType} {act : Frame → State → State} {s : State}
    {o d : Option (List Byte)} (h : split s.params.shortOffset p s.body = .parts o d) :
    completeFrame v p act s = act (frameBuilt s v p.code p o d) (countFrame p s) := by
  rw [completeFrame, h]
  rfl

/-- Counting a frame of any type but END moves FRAME_COUNT alone (R145). -/
theorem countFrame_of_ne_endMark {p : PType} (h : p ≠ .endMark) (s : State) :
    countFrame p s = { s with frameCount := s.frameCount + 1#32 } := by
  rw [countFrame, if_neg h]

/-- Counting an END frame sets END_SEEN as well (R145). -/
theorem countFrame_endMark (s : State) :
    countFrame .endMark s = { s with frameCount := s.frameCount + 1#32, endSeen := true } := by
  rw [countFrame, if_pos rfl]

/-- FRAME_COMPLETE of an accepted frame of an offset-bearing type. -/
theorem completeFrame_accepted {p : PType} (hp : p.hasOffset = true) {s : State} (h : offsetAccepted s) (v : Byte)
    (act : Frame → State → State) :
    completeFrame v p act s =
      act (frameBuilt s v p.code p (strippedOffset s) (strippedData s))
        { s with frameCount := s.frameCount + 1#32 } := by
  have notEnd : p ≠ .endMark := by rintro rfl; cases hp
  rw [completeFrame_parts (split_accepted hp h), countFrame_of_ne_endMark notEnd]

/-- FRAME_COMPLETE of a frame of a type without an offset. -/
theorem completeFrame_whole {p : PType} (hp : p.hasOffset = false) (v : Byte) (act : Frame → State → State)
    (s : State) : completeFrame v p act s = act (frameBuilt s v p.code p none (wholeBodyData s)) (countFrame p s) :=
  completeFrame_parts (split_whole hp s)

/-! ### The types' actions, by mode -/

theorem actRecord_eq (f : Frame) (s : State) :
    actRecord f s = offer (match s.mode with | .decode => .frame f | .dispatch => .records f.data) s := by
  unfold actRecord
  cases s.mode <;> rfl

theorem actException_eq (f : Frame) (s : State) :
    actException f s = offer (match s.mode with | .decode => .frame f | .dispatch => .exceptions f.data) s := by
  unfold actException
  cases s.mode <;> rfl

theorem actStats_eq (f : Frame) (s : State) :
    actStats f s = offer (match s.mode with | .decode => .frame f | .dispatch => .stats f.data) s := by
  unfold actStats
  cases s.mode <;> rfl

theorem actContinuation_decode (f : Frame) {s : State} (h : s.mode = .decode) :
    actContinuation f s = offer (.frame f) s := by rw [actContinuation, h]

theorem actContinuation_dispatch (f : Frame) {s : State} (h : s.mode = .dispatch) :
    actContinuation f s = nextFrame s := by rw [actContinuation, h]

theorem actEnd_decode (f : Frame) {s : State} (h : s.mode = .decode) : actEnd f s = offer (.frame f) s := by
  rw [actEnd, h]

theorem actEnd_dispatch (f : Frame) {s : State} (h : s.mode = .dispatch) : actEnd f s = finishOk s := by
  rw [actEnd, h]

theorem actUnknown_decode (f : Frame) {s : State} (h : s.mode = .decode) : actUnknown f s = offer (.frame f) s := by
  rw [actUnknown, h]

theorem actUnknown_dispatch (f : Frame) {s : State} (h : s.mode = .dispatch) :
    actUnknown f s = raise .unknownType .none f.typeRaw 0#32 s := by rw [actUnknown, h]

/-! ### The obligations -/

/-- Settles O18: the accepted frame, offered in the form of the mode. -/
theorem recordIsOffered : Obligations.RecordIsOffered := by
  unfold Obligations.RecordIsOffered
  intro v s h
  exact ⟨0#32, congrArg _ ((completeFrame_accepted rfl h v actRecord).trans (actRecord_eq _ _))⟩

/-- Settles O19: the frame with its whole body, offered in the form of the mode. -/
theorem exceptionIsOffered : Obligations.ExceptionIsOffered := by
  unfold Obligations.ExceptionIsOffered
  intro v s
  exact ⟨0#32, congrArg _ ((completeFrame_whole rfl v actException s).trans (actException_eq _ _))⟩

/-- Settles O20: the accepted frame, offered in the form of the mode. -/
theorem statsAreOffered : Obligations.StatsAreOffered := by
  unfold Obligations.StatsAreOffered
  intro v s h
  exact ⟨0#32, congrArg _ ((completeFrame_accepted rfl h v actStats).trans (actStats_eq _ _))⟩

/-- Settles O21: the accepted frame, by the mode. -/
theorem continuationIsAbsorbed : Obligations.ContinuationIsAbsorbed := by
  unfold Obligations.ContinuationIsAbsorbed
  intro v s h
  have completed := completeFrame_accepted (p := .continuation) rfl h v actContinuation
  exact ⟨fun hm => ⟨0#32, congrArg _ (completed.trans (actContinuation_decode _ hm))⟩,
    fun hm => congrArg _ (completed.trans (actContinuation_dispatch _ hm))⟩

/-- Settles O22: FRAME.END by the mode, and the OK answer by the rule for it (O25). -/
theorem endEndsTheSession : Obligations.EndEndsTheSession := by
  unfold Obligations.EndEndsTheSession
  refine ⟨fun v s => ?_, fun s ev rest hp hev ht hmove => ?_⟩
  · have completed := completeFrame_whole (p := .endMark) rfl v actEnd s
    rw [countFrame_endMark] at completed
    exact ⟨fun hm => ⟨0#32, congrArg _ (completed.trans (actEnd_decode _ hm))⟩,
      fun hm => ⟨0#32, congrArg _ (completed.trans (actEnd_dispatch _ hm))⟩⟩
  · obtain ⟨n, e⟩ := (sinkOkRule s ev rest hp hev hmove).1 ht
    exact ⟨_, e, rfl, rfl, rfl⟩

/-- Settles O23: the frame with its whole body, by the mode. -/
theorem unknownIsRecordedOrRejected : Obligations.UnknownIsRecordedOrRejected := by
  unfold Obligations.UnknownIsRecordedOrRejected
  intro v c s
  have completed := completeFrame_whole (p := .unknown (c.setWidth 32)) rfl v actUnknown s
  rw [countFrame_of_ne_endMark (by simp)] at completed
  exact ⟨fun hm => ⟨0#32, congrArg _ (completed.trans (actUnknown_decode _ hm))⟩,
    fun hm => congrArg _ (completed.trans (actUnknown_dispatch _ hm))⟩

end Sys2Proof.Machine
end

section
/-!
PROOFS. The host's commands (R180 to R184, R235): what START and ABORT do while BUSY and outside a session, and what
becomes of the request that an ABORT withdraws, up to its late answer (R182, R211).
-/

namespace Sys2Proof.Machine

/-! ### The phases in which a session runs -/

/-- BUSY by its phases (R23). -/
theorem Phase.busy_iff (p : Phase) : p.busy = true ↔ p = .hdr ∨ p = .pay ∨ p = .pcrc ∨ p = .emit := by
  cases p <;> decide

/-- Not BUSY by its phases: IDLE and the terminal ones (R23). -/
theorem Phase.busy_eq_false_iff (p : Phase) :
    p.busy = false ↔ p = .idle ∨ p = .done ∨ p = .error ∨ p = .aborted := by
  cases p <;> decide

/-! ### START and ABORT -/

section
variable (st : Bool) (m : Mode) (r : BitVec 29) {s : State}

/-- START outside a session begins one (R181). -/
theorem exec_start_resting (h : s.phase.busy = false) :
    exec (.cmdStart m r) s = .next (beginSession (writeMode m s)) :=
  congrArg _ (if_neg (Bool.eq_false_iff.1 h))

/-- START while BUSY writes ctrl_mode alone (R235). -/
theorem exec_start_busy (h : s.phase.busy = true) : exec (.cmdStart m r) s = .next (writeMode m s) :=
  congrArg _ (if_pos h)

/-- ABORT while BUSY cancels the session (R182, R184). -/
theorem exec_abort_busy (h : s.phase.busy = true) :
    exec (.cmdAbort st m r) s = .next (cancelSession (writeMode m s)) :=
  congrArg _ (if_pos h)

/-- ABORT outside a session writes ctrl_mode alone (R182, R184). -/
theorem exec_abort_resting (h : s.phase.busy = false) : exec (.cmdAbort st m r) s = .next (writeMode m s) :=
  congrArg _ (if_neg (Bool.eq_false_iff.1 h))

end

/-! ### The withdrawn request -/

/-- While BLOCK reads, a SrcRead is outstanding (R20). -/
theorem outstanding_of_reads {s : State} (h : s.phase.reads = true) : s.outstanding = some .srcRead := if_pos h

/-- In EMIT a SnkPut is outstanding (R20). -/
theorem outstanding_of_emit {s : State} (h : s.phase = .emit) : s.outstanding = some .snkPut := by
  simp [State.outstanding, h, Phase.reads]

/-- An ABORT of a running session leaves its outstanding request withdrawn (R182, R211). -/
theorem exec_abort_withdraws (st : Bool) (m : Mode) (r : BitVec 29) {s : State} {q : Request}
    (hb : s.phase.busy = true) (hq : s.outstanding = some q) :
    ∃ t, exec (.cmdAbort st m r) s = .next t ∧ t.phase = .aborted ∧ t.withdrawn = some q :=
  ⟨_, exec_abort_busy st m r hb, rfl, hq⟩

/-- The answer to the withdrawn request takes only the note of it (R211; log entry 5). -/
theorem lateAnswer_withdrawn {s : State} {q : Request} (h : s.withdrawn = some q) (why : Refusal) :
    lateAnswer q why s = .next { s with withdrawn := none } := if_pos h

/-- SRC's late answer comes while BLOCK reads nothing (R211; log entry 5). -/
theorem step_lateSrc {s : State} {rest : Supply Input} (hr : s.phase.reads = false)
    (hw : s.withdrawn = some .srcRead) (h : s.nextMove = some (.src, rest)) :
    step s = .next { s with inputs := rest, withdrawn := none } :=
  (step_moves h).trans ((if_neg (Bool.eq_false_iff.1 hr)).trans
    (lateAnswer_withdrawn (s := { s with inputs := rest }) hw _))

/-- SNK's late answer comes outside EMIT (R211; log entry 5). -/
theorem step_lateSnk {s : State} {rest : Supply Input} {a : Ack} (hp : s.phase ≠ .emit)
    (hw : s.withdrawn = some .snkPut) (h : s.nextMove = some (.snk a, rest)) :
    step s = .next { s with inputs := rest, withdrawn := none } :=
  (step_moves h).trans ((if_neg hp).trans (lateAnswer_withdrawn (s := { s with inputs := rest }) hw _))

/-- Outside a session a command other than START keeps the phase and the withdrawn request (R182, R183). -/
theorem commandEffect_keepsWithdrawn {m : Mode} {i : Instr} {s t : State} (fx : CommandEffect m i s t)
    (hb : s.phase.busy = false) (hi : ∀ r, i ≠ .cmdStart m r) : t.phase = s.phase ∧ t.withdrawn = s.withdrawn := by
  cases fx with
  | started r e => exact absurd e (hi r)
  | cancelled _ _ _ hp => simp [hb] at hp
  | wrote => exact ⟨rfl, rfl⟩

/-- Outside a session a step that is no answer, no START and no reset keeps the phase and the withdrawn request. -/
theorem step_keepsWithdrawn {s t : State} (hb : s.phase.busy = false) (e : step s = .next t) (hs : ¬ startComes s)
    (hr : ¬ resetComes s) (hsrc : ∀ rest, s.nextMove ≠ some (.src, rest))
    (hsnk : ∀ a rest, s.nextMove ≠ some (.snk a, rest)) : t.phase = s.phase ∧ t.withdrawn = s.withdrawn := by
  cases step_effect e with
  | waits => exact ⟨rfl, rfl⟩
  | srcWaits rest h => exact absurd h (hsrc rest)
  | gaveByte _ h => exact absurd h.1 (hsrc _)
  | gaveEos _ h => exact absurd h.1 (hsrc _)
  | late i rest h hi =>
    obtain ⟨rfl, -⟩ | ⟨⟨a, rfl⟩, -⟩ := hi
    · exact absurd h (hsrc rest)
    · exact absurd h (hsnk a rest)
  | acked a _ rest h => exact absurd h (hsnk a rest)
  | command v rest h fx =>
    have kept := commandEffect_keepsWithdrawn fx hb fun r hd => hs ⟨v, _, r, rest, h, hd⟩
    exact kept
  | accessed => exact ⟨rfl, rfl⟩
  | wasReset rest h => exact absurd ⟨rest, h⟩ hr
  | connected => exact ⟨rfl, rfl⟩

/-! ### The obligations -/

/-- Settles O30: ABORT withdraws the outstanding request, its late answer takes the note of it, and no move but an
answer, a START or a reset takes it before. -/
theorem answerAfterAbortHasNoEffect : Obligations.AnswerAfterAbortHasNoEffect := by
  unfold Obligations.AnswerAfterAbortHasNoEffect
  refine ⟨fun st m r s => ⟨fun hr => ?_, fun hp => ?_⟩, fun s rest hp => ⟨fun hw h => ?_, fun hw a h => ?_⟩,
    fun s t hp e hs hr hsrc hsnk => ?_⟩
  · exact exec_abort_withdraws st m r (Phase.of_reads hr).1 (outstanding_of_reads hr)
  · exact exec_abort_withdraws st m r (by rw [hp]; rfl) (outstanding_of_emit hp)
  · exact step_lateSrc (by rw [hp]; rfl) hw h
  · exact step_lateSnk (by simp [hp]) hw h
  · obtain ⟨phase, withdrawn⟩ := step_keepsWithdrawn (by rw [hp]; rfl) e hs hr hsrc hsnk
    exact ⟨phase.trans hp, withdrawn⟩

/-- Settles O27: START outside a session and START while BUSY. -/
theorem startRule : Obligations.StartRule := by
  unfold Obligations.StartRule
  intro m r s
  exact ⟨fun h => ⟨none, exec_start_resting m r ((Phase.busy_eq_false_iff _).2 h)⟩,
    fun h => exec_start_busy m r ((Phase.busy_iff _).2 h)⟩

/-- Settles O28: ABORT while BUSY and ABORT outside a session, for either START bit. -/
theorem abortRule : Obligations.AbortRule := by
  unfold Obligations.AbortRule
  intro st m r s
  exact ⟨fun h => ⟨s.outstanding, exec_abort_busy st m r ((Phase.busy_iff _).2 h)⟩,
    fun h => exec_abort_resting st m r ((Phase.busy_eq_false_iff _).2 h)⟩

/-- Settles O29: ctrl_mode is no field of STATUS, and CTRL shows it by the register map (O32). -/
theorem nopRule : Obligations.NopRule := by
  unfold Obligations.NopRule
  intro m r s
  obtain ⟨ctrl, -⟩ := registerMap (writeMode m s)
  exact ⟨writeMode m s, rfl, rfl, rfl, ctrl⟩

end Sys2Proof.Machine
end

section
/-!
PROOFS. Errors and the ways out of a terminal phase (R207, R208, R212, R213): what a step out of a session may change of
its end, and what a step into ERROR leaves. Both are read off the effects of Laws/Ops and Laws/Step.
-/

namespace Sys2Proof.Machine

/-! ### Leaving a terminal phase -/

/-- A terminal phase is outside a session (R23). -/
theorem Phase.busy_of_terminal {p : Phase} (h : p.terminal = true) : p.busy = false := by
  cases p with
  | done | error | aborted => rfl
  | idle | hdr | pay | pcrc | emit => cases h

/-- How a session has ended: the phase and the error fields (R34, R245). -/
def State.ending (s : State) : Phase × ErrClass × ErrWhere × Word × Word :=
  (s.phase, s.errClass, s.errWhere, s.errInfo, s.errCrc)

/-- A START outside a session leads to the session's first header byte, with no error (R181). -/
theorem step_start {s t : State} (hb : s.phase.busy = false) (e : step s = .next t) (hs : startComes s) :
    t.ending = (.hdr, .none, .none, 0#32, 0#32) ∧ t.idx = 0#32 := by
  obtain ⟨v, m, r, rest, h, hv⟩ := hs
  have started := exec_start_resting m r (s := { s with inputs := rest, history := s.history ++ [.regW 0x00 v] }) hb
  rw [step_ctrl h, hv, started] at e
  obtain rfl := Host.Outcome.next.inj e
  exact ⟨rfl, rfl⟩

/-- Reset leads to IDLE, with no error (R230). -/
theorem step_resetComes {s t : State} (e : step s = .next t) (h : resetComes s) :
    t.ending = (.idle, .none, .none, 0#32, 0#32) := by
  obtain ⟨rest, h⟩ := h
  rw [step_reset h] at e
  obtain rfl := Host.Outcome.next.inj e
  rfl

/-- Outside a session every step but START and reset keeps the session's end (R209, R213). -/
theorem step_keepsEnding {s t : State} (hb : s.phase.busy = false) (e : step s = .next t) (hs : ¬ startComes s)
    (hr : ¬ resetComes s) : t.ending = s.ending := by
  obtain ⟨noRead, -, -, -, notEmit⟩ := Phase.of_busy_false hb
  cases step_effect e with
  | waits | srcWaits | late | accessed | connected => rfl
  | gaveByte reads | gaveEos reads => simp [noRead] at reads
  | acked _ _ _ _ hp => exact absurd hp notEmit
  | command v rest h fx =>
    cases fx with
    | started r hi => exact absurd ⟨v, _, r, rest, h, hi⟩ hs
    | cancelled _ _ _ busy => simp [hb] at busy
    | wrote => rfl
  | wasReset rest h => exact absurd ⟨rest, h⟩ hr

/-- Settles O43: by whether START comes, reset comes, or neither. -/
theorem onlyStartOrResetLeavesTerminal : Obligations.OnlyStartOrResetLeavesTerminal := by
  unfold Obligations.OnlyStartOrResetLeavesTerminal
  intro s t ht e
  have hb := Phase.busy_of_terminal ht
  by_cases hs : startComes s
  · obtain ⟨ending, idx⟩ := step_start hb e hs
    obtain ⟨phase, errors⟩ := Prod.mk.inj ending
    exact .inl ⟨hs, phase, idx, by simpa using errors⟩
  by_cases hr : resetComes s
  · exact .inr (.inl ⟨hr, by simpa [State.ending] using step_resetComes e hr⟩)
  · exact .inr (.inr ⟨hs, hr, by simpa [State.ending] using step_keepsEnding hb e hs hr⟩)

/-! ### Entering ERROR -/

/-- What the entry into ERROR leaves of the failing frame: no event, and a count only of an unknown type (R208). -/
structure FailedPrecisely (s t : State) : Prop where
  pending : t.pending = none
  frameCount : t.frameCount = s.frameCount ∨ (t.errClass = .unknownType ∧ t.frameCount = s.frameCount + 1#32)

/-- A frame operation raises on a short offset, before the frame is counted, or on an unknown type, after it (R145). -/
theorem frameEffect_failed {p : PType} {s t : State} (fx : FrameEffect p s t) (h : t.phase = .error) :
    FailedPrecisely s t := by
  cases fx with
  | shortOffset => exact ⟨rfl, .inl rfl⟩
  | offered | absorbed | ended => cases h
  | rejected => exact ⟨rfl, .inr ⟨rfl, rfl⟩⟩

theorem State.RewritesFrame.frameCount_eq {s u : State} (hu : s.RewritesFrame u) : u.frameCount = s.frameCount := by
  rw [hu]

theorem answerEffect_failed {s t : State} (fx : AnswerEffect s t) (h : t.phase = .error) : FailedPrecisely s t := by
  cases fx with
  | readsOn _ reads => exact absurd h (Phase.of_reads reads).2.2.2
  | ended => cases h
  | raised hu => exact ⟨rfl, .inl hu.frameCount_eq⟩
  | completed hu p _ ft =>
    obtain ⟨pending, frameCount⟩ := frameEffect_failed ft h
    exact ⟨pending, by rwa [hu.frameCount_eq] at frameCount⟩

/-- BLOCK raises on SNK's answer only when it is ERR (R154, R157). -/
theorem takeAck_failed {a : Ack} {s : State} (h : (takeAck a s).phase = .error) : a = .err := by
  cases a with
  | err => rfl
  | ok =>
    simp only [takeAck, emitAckOk] at h
    split at h <;> cases h

/-- The history grows from s to t without an answered event, but for s's pending one when SNK has rejected it (R208). -/
def NotesRejectedOnly (s t : State) : Prop :=
  ∃ added, t.history = s.history ++ added ∧
    ∀ ev a, Obs.put ev a ∈ added → a = .err ∧ t.errClass = .sink ∧ s.pending = some ev

/-- Of the entries of a step an answered event can only be the agent's own: BLOCK adds Closes alone (R186). -/
theorem notesRejectedOnly_of_entry {s u t : State} {o : Obs} (hu : u.history = s.history ++ [o])
    (h : t.history = u.history ∨ t.history = u.historyClosed)
    (ho : ∀ ev a, Obs.put ev a = o → a = .err ∧ t.errClass = .sink ∧ s.pending = some ev) :
    NotesRejectedOnly s t := by
  obtain ⟨closes, hh, hc⟩ := history_after_entry hu h
  refine ⟨_, hh, fun ev a hmem => ?_⟩
  obtain hput | hclose := List.mem_cons.1 hmem
  · exact ho ev a hput
  · cases hc _ hclose

/-- BLOCK raises on SRC's answer, when SRC has answered in the state s. -/
theorem precise_of_answer {s u t : State} {a : SrcAnswer} (fx : AnswerEffect u t) (h : t.phase = .error)
    (hu : u.history = s.history ++ [.read a]) (hc : u.frameCount = s.frameCount) :
    FailedPrecisely s t ∧ NotesRejectedOnly s t := by
  obtain ⟨pending, frameCount⟩ := answerEffect_failed fx h
  exact ⟨⟨pending, by rwa [hc] at frameCount⟩,
    notesRejectedOnly_of_entry hu (answerEffect_leavesOrCloses fx).history_cases (by simp)⟩

/-- BLOCK raises on SNK's answer, when SNK has answered the pending event of the state s. -/
theorem precise_of_ack {s u : State} {ev : Event} {a : Ack} (hev : s.pending = some ev)
    (h : (takeAck a u).phase = .error) (hu : u.history = s.history ++ [.put ev a]) (hc : u.frameCount = s.frameCount) :
    FailedPrecisely s (takeAck a u) ∧ NotesRejectedOnly s (takeAck a u) := by
  obtain rfl := takeAck_failed h
  refine ⟨⟨rfl, .inl hc⟩, notesRejectedOnly_of_entry hu (takeAck_leavesOrCloses .err u).history_cases ?_⟩
  rintro _ _ ⟨⟩
  exact ⟨rfl, rfl, hev⟩

/-- ERROR is entered on SRC's answer or on SNK's, and precisely (R207, R208). -/
theorem step_failed {s t : State} (hs : s.phase ≠ .error) (e : step s = .next t) (ht : t.phase = .error) :
    FailedPrecisely s t ∧ NotesRejectedOnly s t := by
  cases step_effect e with
  | waits | srcWaits | late | accessed | connected => exact absurd ht hs
  | gaveByte _ _ e' => exact precise_of_answer (takeSrcAnswer_effect e').2 ht rfl rfl
  | gaveEos _ _ e' => exact precise_of_answer (takeSrcAnswer_effect e').2 ht rfl rfl
  | acked a ev rest _ _ hev => exact precise_of_ack hev ht rfl rfl
  | command v rest _ fx =>
    cases fx with
    | started | cancelled => cases ht
    | wrote => exact absurd ht hs
  | wasReset => cases ht

/-- Settles O46: the entry into ERROR is precise from every state, those of the invariant among them. -/
theorem errorsArePrecise : Obligations.ErrorsArePrecise := by
  unfold Obligations.ErrorsArePrecise
  intro s t _ hs e ht
  obtain ⟨⟨pending, frameCount⟩, events⟩ := step_failed hs e ht
  exact ⟨pending, frameCount, events⟩

end Sys2Proof.Machine
end

section
/-!
PROOFS. A hang of the block (R155, R173, R221, R234): one CONTINUATION frame repeated for ever is absorbed again and
again. A run of any length is a number of whole frames, each of which leads back to where it began, and a part of one
more, through which the block reads on. The states of a part are those that O49's runs go through.
-/

namespace Sys2Proof.Machine

/-! ### Endless supplies -/

/-- The supply that gives a list of items again and again; of the empty list there is nothing to give. -/
def cycle {α : Type} : List α → Supply α
  | [] => ⟨[], .stops⟩
  | a :: items => ⟨[], .repeats a items⟩

/-- An endless supply comes round to itself. -/
theorem gives_cycle {α : Type} (draw : Nat → Nat → α) (items : List α) :
    Supply.Gives draw items (cycle items) (cycle items) := by
  cases items with
  | nil => rfl
  | cons a items =>
    have rest := gives_ready draw items [] (.repeats a items)
    rw [List.append_nil] at rest
    exact ⟨_, next_repeats draw a items, rest⟩

/-- An endless supply of one item gives it any number of times. -/
theorem gives_replicate_cycle {α : Type} (draw : Nat → Nat → α) (a : α) (n : Nat) :
    Supply.Gives draw (List.replicate n a) (cycle [a]) (cycle [a]) := by
  induction n with
  | zero => rfl
  | succ n ih => exact ⟨_, next_repeats draw a [], ih⟩

/-- SRC alone moves, for ever. -/
theorem gives_srcMoves {s : State} (h : s.inputs = cycle [.src]) (n : Nat) :
    Supply.Gives Config.freeMove (List.replicate n .src) s.inputs s.inputs := by
  rw [h]
  exact gives_replicate_cycle _ _ n

/-- A supply that gives a list gives the first items of it. -/
theorem gives_take {α : Type} {draw : Nat → Nat → α} {items : List α} {u w : Supply α}
    (h : Supply.Gives draw items u w) (n : Nat) : ∃ v, Supply.Gives draw (items.take n) u v := by
  rw [← List.take_append_drop n items] at h
  obtain ⟨v, hv, -⟩ := gives_append.1 h
  exact ⟨v, hv⟩

/-! ### Reading on -/

/-- In k steps from s to t the block has taken a byte in each and counted n frames; it has offered nothing and reads
on. -/
structure ReadsOnFor (k n : Nat) (s t : State) : Prop where
  reads : t.phase.reads = true
  pending : t.pending = s.pending
  history : t.history.length = s.history.length + k
  frameCount : t.frameCount = s.frameCount + BitVec.ofNat 32 n

theorem ReadsOnFor.trans {j k m n : Nat} {s t u : State} (h : ReadsOnFor j m s t) (g : ReadsOnFor k n t u) :
    ReadsOnFor (j + k) (m + n) s u where
  reads := g.reads
  pending := g.pending.trans h.pending
  history := by rw [g.history, h.history, Nat.add_assoc]
  frameCount := by rw [g.frameCount, h.frameCount, BitVec.ofNat_add, BitVec.add_assoc]

/-- Within a frame FRAME_COUNT stands still. -/
theorem readsOnFor_part {k : Nat} {s t : State} (reads : t.phase.reads = true) (pending : t.pending = s.pending)
    (frameCount : t.frameCount = s.frameCount) (history : t.history.length = s.history.length + k) :
    ReadsOnFor k 0 s t :=
  ⟨reads, pending, history, by rw [frameCount]; exact (BitVec.add_zero _).symm⟩

/-- The run of k steps from s reads on and counts n frames. -/
def RunReadsOn (k n : Nat) (s : State) : Prop := ∃ t, Host.Core.run core k s = .next t ∧ ReadsOnFor k n s t

/-- A run that reads on, after another that does. -/
theorem runReadsOn_add {j k m n : Nat} {s t : State} (run : Host.Core.run core j s = .next t)
    (h : ReadsOnFor j m s t) (rest : RunReadsOn k n t) : RunReadsOn (j + k) (m + n) s := by
  obtain ⟨u, e, g⟩ := rest
  exact ⟨u, (run_add k run).trans e, h.trans g⟩

/-! ### A part of a frame -/

section
variable {s : State} {xs : List Byte} {after : Supply Byte}

/-- The first bytes of a header. -/
theorem runReadsOn_header (moves : s.inputs = cycle [.src]) (hp : s.phase = .hdr) (hi : s.idx = 0#32)
    (hc : s.crc = crcInitial) (bytes : Supply.Gives Config.freeByte xs s.stream after) (hx : xs.length ≤ 11) :
    RunReadsOn xs.length 0 s := by
  have reads : s.phase.reads = true := by rw [hp]; rfl
  have run := run_givenBytes (g := s.headerRead) (n := 11) (fun _ _ => reads)
    (fun xs b stream inputs h => (takeSrcAnswer_headerRead hp h.le b _ stream inputs).trans (if_pos h)) hx bytes
    (gives_srcMoves moves _)
  rw [headerRead_nil hi hc, givenBytes_nil] at run
  exact ⟨_, run, readsOnFor_part reads rfl rfl (by simp [State.givenBytes, State.headerRead])⟩

/-- The first bytes of a body, up to all of them. -/
theorem run_bodyPart (moves : s.inputs = cycle [.src]) (hpos : 0 < s.plen.toNat)
    (bytes : Supply.Gives Config.freeByte xs s.stream after) (hx : xs.length ≤ s.plen.toNat) :
    Host.Core.run core xs.length (payBegin s) = .next ((s.bodyRead xs).givenBytes xs after s.inputs) := by
  have reading (ys : List Byte) (h : ys.length < s.plen.toNat) : (s.bodyRead ys).phase.reads = true := by
    simp [State.bodyRead, h, Phase.reads]
  have begin : payBegin s = (s.bodyRead []).givenBytes [] s.stream s.inputs :=
    (payBegin_eq_bodyRead hpos).trans (givenBytes_nil _).symm
  rw [begin]
  exact run_givenBytes reading (fun ys b stream inputs h => takeSrcAnswer_bodyRead h b _ stream inputs) hx bytes
    (gives_srcMoves moves _)

theorem readsOnFor_bodyPart (s : State) (xs : List Byte) (stream : Supply Byte) (inputs : Supply Input) :
    ReadsOnFor xs.length 0 (payBegin s) ((s.bodyRead xs).givenBytes xs stream inputs) := by
  refine readsOnFor_part ?_ rfl rfl (by simp [State.givenBytes, State.bodyRead])
  change (if xs.length < s.plen.toNat then Phase.pay else .pcrc).reads = true
  split <;> rfl

/-- The first bytes of a payload checksum. -/
theorem runReadsOn_checksum (moves : s.inputs = cycle [.src]) (hp : s.phase = .pcrc) (hi : s.idx = 0#32)
    (bytes : Supply.Gives Config.freeByte xs s.stream after) (hx : xs.length ≤ 3) : RunReadsOn xs.length 0 s := by
  have reads : s.phase.reads = true := by rw [hp]; rfl
  have run := run_givenBytes (g := s.checksumRead) (n := 3) (fun _ _ => reads)
    (fun xs b stream inputs h => (takeSrcAnswer_checksumRead hp h.le b _ stream inputs).trans (if_pos h)) hx bytes
    (gives_srcMoves moves _)
  rw [checksumRead_nil hi, givenBytes_nil] at run
  exact ⟨_, run, readsOnFor_part reads rfl rfl (by simp [State.givenBytes, State.checksumRead])⟩

/-- A part of a payload section: of the body, or the body and a part of its checksum. -/
theorem runReadsOn_payload {k : Nat} (moves : s.inputs = cycle [.src]) {body : List Byte} {x : Word}
    (h : s.plen.toNat = body.length) (hpos : 0 < body.length)
    (bytes : Supply.Gives Config.freeByte (body ++ be32Bytes x) s.stream after) (hk : k < body.length + 4) :
    RunReadsOn k 0 (payBegin s) := by
  obtain ⟨stream, bodyBytes, checksumBytes⟩ := gives_append.1 bytes
  by_cases hb : k ≤ body.length
  · obtain ⟨v, part⟩ := gives_take bodyBytes k
    have len : (body.take k).length = k := List.length_take_of_le hb
    have run := run_bodyPart moves (hpos.trans_eq h.symm) part (by omega)
    have reads := readsOnFor_bodyPart s (body.take k) v s.inputs
    rw [len] at run reads
    exact ⟨_, run, reads⟩
  · obtain ⟨m, rfl⟩ := Nat.exists_eq_add_of_le (Nat.le_of_not_le hb)
    obtain ⟨v, part⟩ := gives_take checksumBytes m
    have len : ((be32Bytes x).take m).length = m := List.length_take_of_le (by rw [be32Bytes_length]; omega)
    refine runReadsOn_add (n := 0) (run_bodyPart moves (hpos.trans_eq h.symm) bodyBytes h.ge)
      (readsOnFor_bodyPart s body _ _) ?_
    rw [bodyRead_whole h]
    exact len ▸ runReadsOn_checksum moves rfl rfl part (by omega)

end

/-! ### The frame repeated -/

theorem decodeW0_continuation (v : Byte) : decodeW0 (encodeW0 v 0x800004#24) = .frameContinuation v := by
  simp [decodeW0]

theorem headerBytes_length (v : Byte) (c : Code) (n : Word) : (headerBytes v c n).length = 12 := rfl

theorem frameBytes_length (v : Byte) (c : Code) (body : List Byte) :
    (frameBytes v c body).length = if body = [] then 12 else 16 + body.length := by
  rw [frameBytes, payloadBytes, List.length_append, headerBytes_length]
  split
  · rfl
  · rw [List.length_append, be32Bytes_length]
    omega

/-- Header byte 0 of a CONTINUATION frame that fits and is accepted, with SRC to give it for ever (R221, R234). -/
structure State.AtContinuation (s : State) (v : Byte) (body : List Byte) : Prop where
  phase : s.phase = .hdr
  idx : s.idx = 0#32
  crc : s.crc = crcInitial
  mode : s.mode = .dispatch
  fits : body.length ≤ s.params.payloadMax.toNat
  accepted : body = [] ∨ 8 ≤ body.length ∨ s.params.shortOffset = .truncate
  stream : s.stream = cycle (frameBytes v 0x800004#24 body)
  inputs : s.inputs = cycle [.src]

section
variable {s : State} {v : Byte} {body : List Byte} (A : s.AtContinuation v body)
include A

/-- Through a part of the frame the block reads on. -/
theorem State.AtContinuation.runReadsOn {k : Nat} (hk : k < (frameBytes v 0x800004#24 body).length) :
    RunReadsOn k 0 s := by
  have bytes := A.stream ▸ gives_cycle Config.freeByte (frameBytes v 0x800004#24 body)
  by_cases h12 : k < 12
  · obtain ⟨u, part⟩ := gives_take bytes k
    have len : ((frameBytes v 0x800004#24 body).take k).length = k := List.length_take_of_le hk.le
    exact len ▸ runReadsOn_header A.inputs A.phase A.idx A.crc part (by omega)
  · obtain ⟨m, rfl⟩ := Nat.exists_eq_add_of_le (Nat.le_of_not_lt h12)
    have hb : body ≠ [] := by
      rintro rfl
      rw [frameBytes_length, if_pos rfl] at hk
      omega
    rw [frameBytes_length, if_neg hb] at hk
    rw [frameBytes, payloadBytes, if_neg hb] at bytes
    obtain ⟨u, header, payload⟩ := gives_append.1 bytes
    have hn : (BitVec.ofNat 32 body.length).toNat = body.length := by
      rw [BitVec.toNat_ofNat, Nat.mod_eq_of_lt (A.fits.trans_lt s.params.payloadMax.isLt)]
    have hpos := List.length_pos_iff.2 hb
    have plen : BitVec.ofNat 32 body.length ≠ 0#32 := fun h => by simp [h] at hn; omega
    have run := (run_header A.phase A.idx A.crc header (gives_srcMoves A.inputs 12)).trans
      (afterHeaderCheck_fits plen (hn.trans_le A.fits))
    refine runReadsOn_add run (readsOnFor_part rfl rfl rfl ?_) (runReadsOn_payload A.inputs hn hpos payload (by omega))
    simp [State.givenBytes, State.headerTaken, headerBytes_length]

/-- Through the whole frame the block comes back, with the frame counted (R155, R173). -/
theorem State.AtContinuation.run_frame : ∃ t,
    Host.Core.run core (frameBytes v 0x800004#24 body).length s = .next t ∧
      ReadsOnFor (frameBytes v 0x800004#24 body).length 1 s t ∧ t.AtContinuation v body := by
  have bytes := A.stream ▸ gives_cycle Config.freeByte (frameBytes v 0x800004#24 body)
  have moves := gives_srcMoves A.inputs (if body = [] then 12 else 16 + body.length)
  obtain ⟨u, run, -, -, -, -, plen, -, full, -, stream, inputs, history, rest⟩ :=
    wholeFrameIsReadAndRun s v 0x800004#24 body _ _ A.phase A.idx A.crc A.fits bytes moves
  obtain ⟨mode, params, pending, frameCount⟩ : u.mode = s.mode ∧ u.params = s.params ∧ u.pending = s.pending ∧
      u.frameCount = s.frameCount := by
    rw [rest]
    exact ⟨rfl, rfl, rfl, rfl⟩
  have accepted : offsetAccepted u := by
    obtain rfl | long | truncate := A.accepted
    · exact .inl plen
    · have hb : body ≠ [] := List.ne_nil_of_length_pos (by omega)
      exact .inr (.inl (by rwa [(full hb).1]))
    · exact .inr (.inr (by rwa [params]))
  have absorbed := (continuationIsAbsorbed v u accepted).2 (mode.trans A.mode)
  rw [← frameBytes_length v 0x800004#24, decodeW0_continuation] at run
  exact ⟨_, run.trans absorbed,
    ⟨rfl, pending, by simp [history], congrArg (· + 1#32) frameCount⟩,
    { phase := rfl
      idx := rfl
      crc := rfl
      mode := mode.trans A.mode
      fits := by rw [params]; exact A.fits
      accepted := by rw [params]; exact A.accepted
      stream := stream.trans A.stream
      inputs := inputs.trans A.inputs }⟩

end

/-- Every run over one frame repeated for ever reads on, and counts each whole frame (R221). -/
theorem State.AtContinuation.run {s : State} {v : Byte} {body : List Byte} (A : s.AtContinuation v body) (k : Nat) :
    RunReadsOn k (k / (frameBytes v 0x800004#24 body).length) s := by
  induction k using Nat.strong_induction_on generalizing s with
  | _ k ih =>
    by_cases hk : k < (frameBytes v 0x800004#24 body).length
    · rw [Nat.div_eq_of_lt hk]
      exact A.runReadsOn hk
    · obtain ⟨t, run, whole, B⟩ := A.run_frame
      have hpos : 0 < (frameBytes v 0x800004#24 body).length := by
        rw [frameBytes_length]
        split <;> omega
      obtain ⟨m, rfl⟩ := Nat.exists_eq_add_of_le (Nat.le_of_not_lt hk)
      rw [Nat.add_div_left m hpos, Nat.add_comm (m / _)]
      exact runReadsOn_add run whole (ih m (by omega) B)

/-- Settles O52: the endless stream is the frame's cycle, and the run over it reads on. -/
theorem endlessStreamRunsForever : Obligations.EndlessStreamRunsForever := by
  unfold Obligations.EndlessStreamRunsForever
  intro s v first more body phase idx crc mode fits accepted frame stream inputs k
  have repeated : s.stream = cycle (frameBytes v 0x800004#24 body) := by
    rw [← frame]
    exact stream
  have A : s.AtContinuation v body := ⟨phase, idx, crc, mode, fits, accepted, repeated, inputs⟩
  obtain ⟨t, run, reads, pending, history, frameCount⟩ := A.run k
  exact ⟨t, run, reads, pending, history, frame ▸ frameCount⟩

end Sys2Proof.Machine
end

section
/-!
PROOFS. Reset and the block outside a session (R230, R231): reset restores the whole block in any state, and outside a
session only START and reset write a field of the block other than ctrl_mode.
-/

namespace Sys2Proof.Machine

/-- t is s but for ctrl_mode and for what lies outside the block: the history and the agents. -/
def State.KeepsBlockButCtrlMode (s t : State) : Prop :=
  t = { s with
    ctrlMode := t.ctrlMode, history := t.history, stream := t.stream, streamEnds := t.streamEnds, inputs := t.inputs,
    withdrawn := t.withdrawn }

/-- Outside a session a command other than START writes ctrl_mode alone (R180, R182, R183). -/
theorem commandEffect_resting {m : Mode} {i : Instr} {s t : State} (fx : CommandEffect m i s t)
    (hb : s.phase.busy = false) (hi : ∀ r, i ≠ .cmdStart m r) : t = writeMode m s := by
  cases fx with
  | started r e => exact absurd e (hi r)
  | cancelled _ _ _ hp => simp [hb] at hp
  | wrote => rfl

/-- Outside a session every step but START and reset leaves the block as it is, but for ctrl_mode (R209, R231). -/
theorem step_keepsBlock {s t : State} (hb : s.phase.busy = false) (e : step s = .next t) (hs : ¬ startComes s)
    (hr : ¬ resetComes s) : s.KeepsBlockButCtrlMode t := by
  obtain ⟨noRead, -, -, -, notEmit⟩ := Phase.of_busy_false hb
  cases step_effect e with
  | waits | srcWaits | late | accessed | connected => rfl
  | gaveByte reads | gaveEos reads => simp [noRead] at reads
  | acked _ _ _ _ hp => exact absurd hp notEmit
  | command v rest h fx =>
    obtain rfl := commandEffect_resting fx hb fun r hd => hs ⟨v, _, r, rest, h, hd⟩
    rfl
  | wasReset rest h => exact absurd ⟨rest, h⟩ hr

/-- Settles O35: reset is one step of resetBlock, and IDLE is outside a session. -/
theorem resetRule : Obligations.ResetRule := by
  unfold Obligations.ResetRule
  refine ⟨fun s ⟨rest, h⟩ => ?_, fun s t hp e hs hr => ?_⟩
  · exact ⟨resetBlock { s with inputs := rest }, step_reset h, rfl, rfl⟩
  · have resting : s.phase.busy = false := by rw [hp]; rfl
    exact step_keepsBlock resting e hs hr

end Sys2Proof.Machine
end
